-- ==== Sys2Proof/Word.lean ====
section
/-! DEFINITION. The plainest types of the model: a character of the body line, and the numberings of
stations, channels and inputs (spec 00_scope, NUMBERING). -/

namespace Sys2Proof

/-- A character of a bulletin: eight bits, bit 7 sent first (R141, R142). -/
abbrev Byte := BitVec 8

/-- A station number, 0 to 7. -/
abbrev Station := Fin 8

/-- An output channel number, 0 to 11: channel n uses terminal On. -/
abbrev ChannelNo := Fin 12

/-- An input terminal number, 0 to 7. -/
abbrev InputNo := Fin 8

end Sys2Proof
end

