-- ==== Sys2Proof/Config.lean ====
section
/-! DEFINITION. The figures the manual fixes for every KM-46. Times are microseconds of the station's own
oscillator (spec 00_scope, TIME). The manual leaves no result of arithmetic open. At two points its rules say different
things and nothing settles them: for each there is a constant without a body, so that a statement holds for either
reading. -/

namespace Sys2Proof.Config

/-- A beat lasts 20 ms (R60). -/
def beat : Nat := 20000

/-- The latch point stands 16 ms into a beat (R18, TABLE 11). -/
def latchPoint : Nat := 16000

/-- The sample point stands 10 ms into a beat (R28). -/
def samplePoint : Nat := 10000

/-- An output terminal's pulse period is 1 ms (R57). -/
def pulsePeriod : Nat := 1000

/-- The idle gap: 11 bit times of 50 microseconds (R141). -/
def idleGap : Nat := 550

/-- Reading the profile may take 200 ms from the start of START (R165). -/
def profileLimit : Nat := 200000

/-- Interval of switch sampling in RUN and SAG: 5 ms (R24). -/
def switchRun : Nat := 5000

/-- Interval of switch sampling in PARKED: 20 ms (R24). -/
def switchParked : Nat := 20000

/-- The sender reference output SR: 2500 mV, here in microvolts (TABLE 61). -/
def senderReference : Nat := 2500000

/-- The time that one step on an empty queue lets pass: one microsecond.
DESIGN CHOICE, log 2: finer than every figure of the manual. -/
def tick : Nat := 1

/-- A LIVE peer goes STALE, and a status age leaves the reference set, at 48 beats (R62, R159). -/
def peerStaleAge : Nat := 48

/-- A STALE peer becomes ABSENT at 250 beats (R159). -/
def peerAbsentAge : Nat := 250

/-- A FRESH view entry may go STALE at 128 beats (R13). -/
def viewStaleAge : Nat := 128

/-- The settle count stops at 250 boundaries (R72). -/
def settleLimit : Nat := 250

/-- A lowering needs 64 boundaries (R134). -/
def loweringLimit : Nat := 64

/-- The return from SAG needs 8 boundaries (R168). -/
def sagExitLimit : Nat := 8

/-- The NORMAL-run count stops at 250 checks (R109). -/
def normalRunLimit : Nat := 250

/-! ## What the manual leaves open -/

/-- Whether a PARKED peer that IGNITION has restarted, and whose parking STATUS is younger than 48 beats, is in the
reference set: by R62 it is, by R160 it is not until its next STATUS. A free value, safe (DESIGN CHOICE, log 30). -/
opaque restartedMayRefer : Bool

/-- Whether a station in CONFIG FAULT answers PEER REPORT with the peer's figures, as R155 says that it still reports
its peers, or NO SUCH, as R167 and R173 say of every item but 1 and 4. A free value, safe (DESIGN CHOICE, log 29). -/
opaque faultReportsPeers : Bool

end Sys2Proof.Config
end

