-- ==== Sys2Proof/Syntax.lean ====
section
/-! DEFINITION. The commands: one constructor of `Instr` for each row of spec/opcode_table.json, with the
operands the outside world gives each of them (log 1), and the types those operands are made of: bulletins,
the profile image, what a frame was heard as, what was sensed. -/

namespace Sys2Proof

/-! ## Names shared by bulletins, profile and state -/

/-- The three resets (R172). -/
inductive ResetCause where
  | powerOn | pin | serviceRestart
  deriving DecidableEq, Repr

/-- The five intrinsic functions (TABLE 4). -/
inductive Intrinsic where
  | indicateLeft | indicateRight | hazard | stop | ignition
  deriving DecidableEq, Repr

/-- The modes of an input (TABLE 13). -/
inductive InputMode where
  | unused | switchToEarth | switchToFeed | sender
  deriving DecidableEq, Repr

/-- The modes of an origin entry (TABLE 7). -/
inductive OriginMode where
  | switch | pair | analog
  deriving DecidableEq, Repr

/-- What a view entry resolves to once it is stale (TABLE 10). -/
inductive StaleAction where
  | hold | off | on
  deriving DecidableEq, Repr

/-- The modes of a map entry (R16). -/
inductive MapMode where
  | direct | switched
  deriving DecidableEq, Repr

/-- Channel kinds (TABLE 18). -/
inductive ChannelKind where
  | lamp | flash | stopflash | telltale | fan | gauge
  deriving DecidableEq, Repr

/-- The side of a FLASH, STOPFLASH or TELLTALE channel (TABLE 19). -/
inductive Side where
  | left | right | either | warn
  deriving DecidableEq, Repr

/-- The shed action: OFF, or CAP with its cap (TABLE 19). -/
inductive ShedAction where
  | off
  | cap (value : Nat)
  deriving DecidableEq, Repr

/-- A gauge movement's law (TABLE 29). -/
inductive GaugeLaw where
  | thermal | magnetic
  deriving DecidableEq, Repr

/-- Earth polarity of the car (TABLE 59, R176). -/
inductive Polarity where
  | negative | positive
  deriving DecidableEq, Repr

/-! ## Bulletins (Chapter 9) -/

/-- ALERT codes 1 to 4 (TABLE 38). -/
inductive AlertCode where
  | lampOutLeft | lampOutRight | lampOutOther | channelLatched
  deriving DecidableEq, Repr

/-- The states a STATUS can carry, codes 1 to 4 (TABLE 48). -/
inductive ReportedState where
  | run | parked | sag | configFault
  deriving DecidableEq, Repr

/-- The result of a SERVICE REPLY, codes 0 to 2 (TABLE 47). -/
inductive ReplyResult where
  | done | refused | noSuch
  deriving DecidableEq, Repr

/-- One pair of a READING body: input, validity, reading (TABLE 47). -/
structure ReadingItem where
  input : InputNo
  valid : Bool
  reading : BitVec 12
  deriving DecidableEq, Repr

/-- A STATUS body (TABLE 48). -/
structure StatusBody where
  beat : Byte
  state : ReportedState
  lc : BitVec 2
  charging : Bool
  overBudget : Bool
  learning : Bool
  d0 : Byte
  d1 : Byte
  d2 : Byte
  d3 : Byte
  supply : Byte
  faults : Byte
  deriving DecidableEq, Repr

/-- The bodies of the six kinds of bulletin (TABLE 47). -/
inductive Body where
  | alert (code : AlertCode) (subject : Byte)
  | function (pairs : List (Byte × Byte))
  | reading (items : List ReadingItem)
  | status (body : StatusBody)
  | query (target : Station) (item : Byte) (arg1 : Byte) (arg2 : Byte)
  | reply (querier : Station) (item : Byte) (result : ReplyResult) (data : List Byte)
  deriving DecidableEq, Repr

/-- A bulletin: who sent it, its sequence number, its body (R142). -/
structure Bulletin where
  sender : Station
  seq : BitVec 4
  body : Body
  deriving DecidableEq, Repr

/-- How the hearing of a frame ended (R146): with the character after which the frame is complete, with a
character whose stop bit read dominant, or with an idle gap before the declared end. -/
inductive Ending where
  | complete | dominantStop | idleGap
  deriving DecidableEq, Repr

/-- What a receiver heard of a frame: the characters whose stop bits read recessive, in order, how the hearing ended
(R146), and for how many microseconds more the line stayed dominant after a stop bit read dominant (R141). -/
structure Reception where
  chars : List Byte
  ending : Ending
  dominant : Nat := 0
  deriving DecidableEq, Repr

/-- A SERVICE QUERY as its target receives it: sender, sequence and the two arguments (R173). -/
structure Query where
  sender : Station
  seq : BitVec 4
  arg1 : Byte
  arg2 : Byte
  deriving DecidableEq, Repr

/-! ## The profile (Chapters 1 to 5 and 11) -/

/-- The profile part of an origin entry (TABLE 7). -/
structure OriginProfile where
  function : Nat
  mode : OriginMode
  first : Nat
  second : Nat
  closedValue : Nat
  openValue : Nat
  comboOpenOpen : Nat
  comboClosedOpen : Nat
  comboOpenClosed : Nat
  comboClosedClosed : Nat
  offset : Nat
  invert : Bool
  deriving DecidableEq, Repr

/-- A map entry (R16). -/
structure MapEntry where
  function : Nat
  channel : Nat
  mode : MapMode
  action : StaleAction
  filter : Option Nat
  deriving DecidableEq, Repr

/-- The gauge part of a channel record (TABLE 29). -/
structure GaugePart where
  station : Nat
  input : Nat
  law : GaugeLaw
  vZero : Nat
  vFull : Nat
  shift : Nat
  curve : List (Nat × Nat)
  deriving DecidableEq, Repr

/-- The profile part of a channel record (TABLE 19). A field that the record's kind does not carry is
there and is read by nothing. -/
structure ChannelProfile where
  kind : ChannelKind
  side : Side
  nominal : Nat
  rated : Nat
  shedClass : Nat
  action : ShedAction
  parkPermitted : Bool
  ignitionFed : Bool
  gauge : GaugePart
  minRipple : Nat
  deriving DecidableEq, Repr

/-- A station section: input modes I0 to I7, origin entries, map entries, channel records by channel number. `coded`
says that every field with named values (the modes of inputs, origin and map entries, stale actions, kinds, sides, shed
actions, laws, flags) holds the code of one of its values; where it is false, the field that does not is outside its
range and the other members are read by nothing (R166, log 9). -/
structure StationSection where
  coded : Bool
  modes : List InputMode
  origins : List OriginProfile
  maps : List MapEntry
  channels : List (Nat × ChannelProfile)
  deriving DecidableEq, Repr

/-- The common section (TABLE 59), less format code and image length, which only the checks read.
`sections` is the mask of sections present: bit n for station n; so is `expected`. `nominal` is the figure the image
gives for the system nominal, in volts; `coded` says that the earth polarity holds the code of one of its two values
(log 9). -/
structure CommonSection where
  coded : Bool
  nominal : Nat
  polarity : Polarity
  aCharge : Nat
  aBattery : Nat
  margin : Nat
  chargeThreshold : Nat
  sagThreshold : Nat
  parkDelay : Nat
  expected : Byte
  sections : Byte
  deriving DecidableEq, Repr

/-- A profile image as one attempt read it. The byte layout of the fields is not in the manual, so the
fields come beside the bytes (log 9): `bytes` is the whole image, its last two bytes the check (R166);
`located` says that every section was found at the place its length gives (TABLE 58, order 3). -/
structure ProfileImage where
  bytes : List Byte
  formatCode : Nat
  imageLength : Nat
  located : Bool
  common : CommonSection
  sections : List (Station × StationSection)
  deriving DecidableEq, Repr

/-- What one attempt at the profile port brought: nothing, or an image (R165, TABLE 58). -/
inductive ProfileRead where
  | noAnswer
  | image (i : ProfileImage)
  deriving DecidableEq, Repr

/-! ## Operands of the boundary -/

/-- Who holds a staged value (R19, R20): a channel record or the flash unit. -/
inductive Holder where
  | channel (n : ChannelNo)
  | intrinsic (f : Intrinsic)
  deriving DecidableEq, Repr

/-- The events of a boundary that the table lists as steps of their own. -/
inductive BoundaryEvent where
  | stagedValueTaken | stallVerdict | testOverrideExpiry | blankingEnd | overcurrentTrip | openFlagSet
  | retryWaitEnd | tripCountClear | latchRelease | refresh | scheduledReading | scheduledStatus
  | earlyStatus | pendingAlignmentApplied | viewEntryStale | peerStale | peerAbsent | statusAgeExpiry
  | settleCountComplete | levelLowered | sagExit | parkingStart
  deriving DecidableEq, Repr

/-- How one boundary is taken. `leave` names the events that BEAT_BOUNDARY leaves to steps of their own at
the same instant; with `leave` empty the boundary is whole. The flags settle orders that the manual leaves
open (log 5): `sagFirst` takes entry to SAG and the return from it before the budget (R136), `gaugeSagFirst` takes
them before the gauges (R99), `findingFirst` takes findings before the flash state (R74, R113, R114),
`restartFirst` restarts PARKED peers before the ageing (R160), `stallFirst` gives stall verdicts before the checks of
the beat just ended (R104). -/
structure BoundaryOrder where
  leave : List BoundaryEvent := []
  sagFirst : Bool := true
  gaugeSagFirst : Bool := true
  findingFirst : Bool := true
  restartFirst : Bool := true
  stallFirst : Bool := false
  deriving DecidableEq, Repr

/-- What one terminal's current sense shows in a pulse period, in sense units: at the start of the on-time
(for the ripple detector, R121) and at the period's one reading (R102). -/
structure Sense where
  start : Nat
  reading : Nat
  deriving DecidableEq, Repr

/-- What a pulse period shows at the terminals' current senses, O0 to O11, and whether the short trips it brings are
left to steps of their own (log 4). -/
structure PeriodSenses where
  senses : List Sense
  leaveShort : Bool
  deriving DecidableEq, Repr

/-- A reply to another station's query as heard: its sequence, and how many data characters it carries. -/
structure HeardReply where
  seq : BitVec 4
  data : Nat
  deriving DecidableEq, Repr

/-! ## The commands -/

/-- One constructor per row of spec/opcode_table.json, in the table's order. -/
inductive Instr where
  /-- POWER_ON_RESET (R172, R35) -/
  | powerOnReset
  /-- PIN_RESET (R172) -/
  | pinReset
  /-- RESET_END (R172): which reset ended, and what the straps S0 to S2 read. -/
  | resetEnd (cause : ResetCause) (straps : Station)
  /-- PROFILE_ATTEMPT_END (R165): what the attempt read; the supply in mV, sampled if START ends here. -/
  | profileAttemptEnd (read : ProfileRead) (supply : Nat)
  /-- PROFILE_TIMEOUT (R165): the supply in mV, sampled as START ends. -/
  | profileTimeout (supply : Nat)
  /-- BEAT_BOUNDARY (R60) -/
  | beatBoundary (order : BoundaryOrder)
  /-- STAGED_VALUE_TAKEN (R19) -/
  | stagedValueTaken (holder : Holder)
  /-- STALL_VERDICT (R124) -/
  | stallVerdict (n : ChannelNo)
  /-- RIPPLE_PULSE (R121): the sensed current, in sense units. -/
  | ripplePulse (n : ChannelNo) (current : Nat)
  /-- TEST_OVERRIDE_EXPIRY (R50) -/
  | testOverrideExpiry (n : ChannelNo)
  /-- SHORT_TRIP (R106): the trip of a reading of 255 that the channel's pulse period left to this step. -/
  | shortTrip (n : ChannelNo)
  /-- BLANKING_END (R105) -/
  | blankingEnd (n : ChannelNo)
  /-- OVERCURRENT_TRIP (R107) -/
  | overcurrentTrip (n : ChannelNo)
  /-- OPEN_FLAG_SET (R112) -/
  | openFlagSet (n : ChannelNo)
  /-- RETRY_WAIT_END (R108) -/
  | retryWaitEnd (n : ChannelNo)
  /-- TRIP_COUNT_CLEAR (R109) -/
  | tripCountClear (n : ChannelNo)
  /-- LATCH_RELEASE (R110) -/
  | latchRelease (n : ChannelNo)
  /-- SAMPLE_POINT (R28): supply in mV; terminal voltages I0 to I7 in microvolts; whether validity changes
  are left to steps of their own. -/
  | samplePoint (supply : Nat) (senders : List Nat) (leaveValidity : Bool)
  /-- SENDER_VALIDITY_CHANGE (R31) -/
  | senderValidityChange (i : InputNo)
  /-- SWITCH_SAMPLING_INSTANT (R24): terminal voltages I0 to I7 in mV; whether settling is left to steps of
  their own. -/
  | switchSamplingInstant (volts : List Nat) (leaveSettled : Bool)
  /-- INPUT_SETTLED (R26) -/
  | inputSettled (i : InputNo)
  /-- REFRESH (R6) -/
  | refresh
  /-- SCHEDULED_READING (R39) -/
  | scheduledReading
  /-- SCHEDULED_STATUS (R154) -/
  | scheduledStatus
  /-- EARLY_STATUS (R154) -/
  | earlyStatus
  /-- ATTEMPT (R144) -/
  | attempt
  /-- LOST_ARBITRATION (R144) -/
  | lostArbitration
  /-- TRANSMIT_BIT_ERROR (R145) -/
  | transmitBitError
  /-- ATTEMPT_COMPLETE (R145) -/
  | attemptComplete
  /-- FRAME_DISCARDED (R146): what was heard. -/
  | frameDiscarded (heard : Reception)
  /-- FUNCTION_RECEIVED (R12) -/
  | functionReceived (sender : Station) (seq : BitVec 4) (pairs : List (Byte × Byte))
  /-- READING_RECEIVED (R90) -/
  | readingReceived (sender : Station) (seq : BitVec 4) (items : List ReadingItem)
  /-- STATUS_RECEIVED (R157) -/
  | statusReceived (sender : Station) (seq : BitVec 4) (body : StatusBody)
  /-- PENDING_ALIGNMENT_APPLIED (R69) -/
  | pendingAlignmentApplied
  /-- ALERT_RECEIVED (R75) -/
  | alertReceived (sender : Station) (seq : BitVec 4) (code : AlertCode) (subject : Byte)
  /-- SERVICE_REPLY_RECEIVED (R146) -/
  | serviceReplyReceived (sender : Station) (reply : HeardReply)
  /-- LINE_STUCK (R149) -/
  | lineStuck
  /-- STUCK_RECOVERY (R149) -/
  | stuckRecovery
  /-- VIEW_ENTRY_STALE (R13) -/
  | viewEntryStale (f : Nat)
  /-- PEER_STALE (R159) -/
  | peerStale (p : Station)
  /-- PEER_ABSENT (R159) -/
  | peerAbsent (p : Station)
  /-- STATUS_AGE_EXPIRY (R62) -/
  | statusAgeExpiry (p : Station)
  /-- SETTLE_COUNT_COMPLETE (R72) -/
  | settleCountComplete
  /-- LEVEL_LOWERED (R134) -/
  | levelLowered
  /-- SAG_EXIT (R168) -/
  | sagExit
  /-- PARKING_START (R170) -/
  | parkingStart
  /-- STATION_REPORT (R174) -/
  | stationReport (q : Query)
  /-- CHANNEL_REPORT (R174) -/
  | channelReport (q : Query)
  /-- PEER_REPORT (R174) -/
  | peerReport (q : Query)
  /-- LINE_COUNTERS (R174) -/
  | lineCounters (q : Query)
  /-- TEST_CHANNEL (R175) -/
  | testChannel (q : Query)
  /-- CLEAR_LATCH (R111) -/
  | clearLatch (q : Query)
  /-- RESTART (R175) -/
  | restart (q : Query)
  /-- SERVICE_QUERY_NO_SUCH_ITEM (R173): the item, 0 or above 7. -/
  | serviceQueryNoSuchItem (q : Query) (item : Byte)
  /-- SERVICE_QUERY_OTHER_TARGET (R173): a query for another station. -/
  | serviceQueryOtherTarget (sender : Station) (seq : BitVec 4) (target : Station)
  /-- PULSE_PERIOD (R102) -/
  | pulsePeriod (period : PeriodSenses)
  /-- START_BIT_CAPTURE (R65, R141): for how many microseconds the line stays dominant from this edge on; read only
  where the edge begins no bulletin. -/
  | startBitCapture (dominant : Nat := 0)
  deriving DecidableEq, Repr

end Sys2Proof
end

