-- ==== Sys2Proof/WellFormed.lean ====
section
/-! DEFINITION. Which terms of Syntax.lean are commands that the outside world can give: counts and ranges of
operands that the types do not already bound. `exec` answers for every command, well formed or not; the checks
say what a bulletin on the line (R142, R146), a supply that keeps the part running (R35) and a set of terminals
can be. -/

namespace Sys2Proof

/-- The pairs of a FUNCTION: one to six, no function 0, no function twice (TABLE 47, R146). -/
def pairsWellFormed (pairs : List (Byte × Byte)) : Bool :=
  decide (1 ≤ pairs.length) && decide (pairs.length ≤ 6) && pairs.all (fun q => q.1 != 0#8)
    && decide (pairs.map Prod.fst).Nodup

/-- The pairs of a READING: one to six, no input twice (TABLE 47). -/
def itemsWellFormed (items : List ReadingItem) : Bool :=
  decide (1 ≤ items.length) && decide (items.length ≤ 6) && decide (items.map ReadingItem.input).Nodup

/-- A body whose lengths and fields TABLE 47 allows (the types bound the rest). -/
def Body.wellFormed : Body → Bool
  | .function pairs => pairsWellFormed pairs
  | .reading items => itemsWellFormed items
  | .reply _ _ _ data => decide (data.length ≤ 9)
  | .alert _ _ => true
  | .status _ => true
  | .query _ _ _ _ => true

/-- A bulletin that a sender can send. -/
def Bulletin.wellFormed (b : Bulletin) : Bool := b.body.wellFormed

/-- A supply at which the part runs: at or above the power-on-reset level of 3000 mV (R35). -/
def supplyWellFormed (supply : Nat) : Bool := decide (3000 ≤ supply)

/-- One sense for each of the twelve terminals, readings from 0 to 255 (R102). -/
def sensesWellFormed (senses : List Sense) : Bool :=
  decide (senses.length = 12) && senses.all (fun x => decide (x.start ≤ 255) && decide (x.reading ≤ 255))

/-- The checks on a command. -/
def Instr.wellFormed : Instr → Bool
  | .profileAttemptEnd _ supply => supplyWellFormed supply
  | .profileTimeout supply => supplyWellFormed supply
  | .ripplePulse _ current => decide (current ≤ 255)
  | .samplePoint supply senders _ => supplyWellFormed supply && decide (senders.length = 8)
  | .switchSamplingInstant volts _ => decide (volts.length = 8)
  | .frameDiscarded heard => decide (heard.chars.length ≤ 15) && decide (heard.dominant ≤ 20000)
  | .functionReceived _ _ pairs => pairsWellFormed pairs
  | .readingReceived _ _ items => itemsWellFormed items
  | .viewEntryStale f => decide (1 ≤ f) && decide (f ≤ 255)
  | .serviceQueryNoSuchItem _ item => item == 0#8 || decide (7 < item.toNat)
  | .pulsePeriod period => sensesWellFormed period.senses
  | .powerOnReset => true
  | .pinReset => true
  | .resetEnd _ _ => true
  | .beatBoundary _ => true
  | .stagedValueTaken _ => true
  | .stallVerdict _ => true
  | .testOverrideExpiry _ => true
  | .shortTrip _ => true
  | .blankingEnd _ => true
  | .overcurrentTrip _ => true
  | .openFlagSet _ => true
  | .retryWaitEnd _ => true
  | .tripCountClear _ => true
  | .latchRelease _ => true
  | .senderValidityChange _ => true
  | .inputSettled _ => true
  | .refresh => true
  | .scheduledReading => true
  | .scheduledStatus => true
  | .earlyStatus => true
  | .attempt => true
  | .lostArbitration => true
  | .transmitBitError => true
  | .attemptComplete => true
  | .statusReceived _ _ _ => true
  | .pendingAlignmentApplied => true
  | .alertReceived _ _ _ _ => true
  | .serviceReplyReceived _ reply => decide (reply.data ≤ 9)
  | .lineStuck => true
  | .stuckRecovery => true
  | .peerStale _ => true
  | .peerAbsent _ => true
  | .statusAgeExpiry _ => true
  | .settleCountComplete => true
  | .levelLowered => true
  | .sagExit => true
  | .parkingStart => true
  | .stationReport _ => true
  | .channelReport _ => true
  | .peerReport _ => true
  | .lineCounters _ => true
  | .testChannel _ => true
  | .clearLatch _ => true
  | .restart _ => true
  | .serviceQueryOtherTarget _ _ _ => true
  | .startBitCapture dominant => decide (dominant ≤ 20000)

end Sys2Proof
end

