-- ==== Sys2Proof/Decode.lean ====
section
/-! DEFINITION. Bulletins as characters (R141 to R143, R146): the check characters, the writing and the judging
of a frame, and which command of the table a heard frame is. The table's rows give no bits, so no table word
spells a command. -/

namespace Sys2Proof

/-- No row of spec/opcode_table.json gives bits, so no word spells a command. -/
def decodeTableWord (_nbits _w : Nat) : Option Instr := none

/-! ## Bits on the line (R141, R144) -/

/-- The ten bit times of a character: a dominant start bit, eight data bits with the most significant first,
a recessive stop bit; dominant is `false` (R141). -/
def characterBits (c : Byte) : List Bool :=
  [false, c.getLsbD 7, c.getLsbD 6, c.getLsbD 5, c.getLsbD 4, c.getLsbD 3, c.getLsbD 2, c.getLsbD 1,
    c.getLsbD 0, true]

/-- A bulletin's bits: its characters back to back (R141). -/
def frameBits (chars : List Byte) : List Bool := chars.flatMap characterBits

/-- Sending the bits `own` while another station sends `other`: true when the station sends recessive and
reads dominant before any bit at which the other would have stopped (R144). The line is dominant while any
station drives it (R141). -/
def losesBits : List Bool → List Bool → Bool
  | true :: _, false :: _ => true
  | false :: _, true :: _ => false
  | _ :: own, _ :: other => losesBits own other
  | _, _ => false

/-- Whether the sender of character 0 `own` loses arbitration to the sender of `other` (R144). -/
def losesArbitration (own other : Byte) : Bool := losesBits (characterBits own) (characterBits other)

/-! ## Check characters -/

/-- One bit of the CRC-8 with generator 2F hex, most significant bit first (R143). -/
def crc8Bit (reg : Byte) : Byte :=
  if reg.getLsbD 7 then (reg <<< 1) ^^^ 0x2F#8 else reg <<< 1

/-- One character into the CRC-8 register (R143). -/
def crc8Step (reg c : Byte) : Byte :=
  crc8Bit (crc8Bit (crc8Bit (crc8Bit (crc8Bit (crc8Bit (crc8Bit (crc8Bit (reg ^^^ c))))))))

/-- The check character of a bulletin's characters: initial value FF hex, no final inversion (R143). -/
def crc8 (chars : List Byte) : Byte := chars.foldl crc8Step 0xFF#8

/-- One bit of the CRC-16 with generator x¹⁶ + x¹² + x⁵ + 1 (R166). -/
def crc16Bit (reg : BitVec 16) : BitVec 16 :=
  if reg.getLsbD 15 then (reg <<< 1) ^^^ 0x1021#16 else reg <<< 1

/-- One byte into the CRC-16 register, most significant bit first (R166). -/
def crc16Step (reg : BitVec 16) (c : Byte) : BitVec 16 :=
  crc16Bit (crc16Bit (crc16Bit (crc16Bit (crc16Bit (crc16Bit (crc16Bit (crc16Bit
    (reg ^^^ (c ++ 0x00#8)))))))))

/-- The CRC-16 of a profile image's bytes: initial value FFFF hex, no final inversion (R166). -/
def crc16 (bytes : List Byte) : BitVec 16 := bytes.foldl crc16Step 0xFFFF#16

/-- The CRC-16 of every byte of the image but the last two is what those two carry, the most significant
first (R166, TABLE 58 order 2). -/
def imageCheckHolds (bytes : List Byte) : Bool :=
  match bytes.reverse with
  | lo :: hi :: rest => crc16 rest.reverse == hi ++ lo
  | _ => false

/-! ## Codes -/

/-- Kind codes (TABLE 47). -/
def Body.kind : Body → Nat
  | .alert _ _ => 1
  | .function _ => 4
  | .reading _ => 8
  | .status _ => 12
  | .query _ _ _ _ => 20
  | .reply _ _ _ _ => 24

/-- ALERT codes (TABLE 38). -/
def AlertCode.code : AlertCode → Byte
  | .lampOutLeft => 1#8
  | .lampOutRight => 2#8
  | .lampOutOther => 3#8
  | .channelLatched => 4#8

/-- The ALERT code a character carries; codes 0 and above 4 are malformed (R146). -/
def AlertCode.ofCode (c : Byte) : Option AlertCode :=
  if c = 1#8 then some .lampOutLeft
  else if c = 2#8 then some .lampOutRight
  else if c = 3#8 then some .lampOutOther
  else if c = 4#8 then some .channelLatched
  else none

/-- State codes of a STATUS (TABLE 48). -/
def ReportedState.code : ReportedState → BitVec 3
  | .run => 1#3
  | .parked => 2#3
  | .sag => 3#3
  | .configFault => 4#3

/-- The state a STATUS code carries; codes 0 and 5 to 7 are malformed (R146). -/
def ReportedState.ofCode (c : BitVec 3) : Option ReportedState :=
  if c = 1#3 then some .run
  else if c = 2#3 then some .parked
  else if c = 3#3 then some .sag
  else if c = 4#3 then some .configFault
  else none

/-- Result codes of a SERVICE REPLY (TABLE 47). -/
def ReplyResult.code : ReplyResult → Byte
  | .done => 0#8
  | .refused => 1#8
  | .noSuch => 2#8

/-- The result a character carries; a result above 2 is malformed (R146). -/
def ReplyResult.ofCode (c : Byte) : Option ReplyResult :=
  if c = 0#8 then some .done
  else if c = 1#8 then some .refused
  else if c = 2#8 then some .noSuch
  else none

/-- A station number in a character of its own. -/
def Station.toByte (p : Station) : Byte := BitVec.ofNat 8 p.val

/-- The station number a character carries; one above 7 is malformed (R146). -/
def Station.ofByte (c : Byte) : Option Station :=
  if h : c.toNat < 8 then some ⟨c.toNat, h⟩ else none

/-! ## Writing a bulletin -/

/-- The first character of a READING pair: bits 7 to 5 input, bit 4 valid, bits 3 to 0 reading bits 11 to 8
(TABLE 47). -/
def ReadingItem.firstChar (r : ReadingItem) : Byte :=
  (BitVec.ofNat 3 r.input.val ++ BitVec.ofBool r.valid) ++ r.reading.extractLsb' 8 4

/-- The second character of a READING pair: reading bits 7 to 0 (TABLE 47). -/
def ReadingItem.secondChar (r : ReadingItem) : Byte := r.reading.extractLsb' 0 8

/-- Body character 1 of a STATUS (TABLE 48). -/
def StatusBody.stateChar (x : StatusBody) : Byte :=
  (((x.state.code ++ x.lc) ++ BitVec.ofBool x.charging) ++ BitVec.ofBool x.overBudget)
    ++ BitVec.ofBool x.learning

/-- The body characters of each kind (TABLES 47 and 48). -/
def Body.chars : Body → List Byte
  | .alert code subject => [code.code, subject]
  | .function pairs => pairs.flatMap (fun q => [q.1, q.2])
  | .reading items => items.flatMap (fun r => [r.firstChar, r.secondChar])
  | .status x => [x.beat, x.stateChar, x.d0, x.d1, x.d2, x.d3, x.supply, x.faults]
  | .query target item a1 a2 => [target.toByte, item, a1, a2]
  | .reply q item result data => q.toByte :: item :: result.code :: data

/-- Character 0: kind code in bits 7 to 3, sender in bits 2 to 0 (TABLE 46). -/
def Bulletin.char0 (b : Bulletin) : Byte := BitVec.ofNat 5 b.body.kind ++ BitVec.ofNat 3 b.sender.val

/-- Character 1: sequence in bits 7 to 4, body length in bits 3 to 0 (TABLE 46). -/
def Bulletin.char1 (b : Bulletin) : Byte := b.seq ++ BitVec.ofNat 4 b.body.chars.length

/-- Everything but the check character. -/
def Bulletin.unchecked (b : Bulletin) : List Byte := b.char0 :: b.char1 :: b.body.chars

/-- The characters of a bulletin as sent (R142, R143). -/
def Bulletin.encode (b : Bulletin) : List Byte := b.unchecked ++ [crc8 b.unchecked]

/-! ## Judging a frame (R146, TABLE 50) -/

/-- The receive faults, by the counter each increases (TABLE 50). -/
inductive RxFault where
  | framing | malformed | check | unknownKind
  deriving DecidableEq, Repr

/-- A frame judged: a valid bulletin, or the first fault found. -/
inductive Verdict where
  | valid (b : Bulletin)
  | fault (f : RxFault)
  deriving DecidableEq, Repr

/-- Body characters taken two by two; an odd number is no list of pairs. -/
def twoByTwo : List Byte → Option (List (Byte × Byte))
  | [] => some []
  | [_] => none
  | a :: b :: rest => (twoByTwo rest).map (fun l => (a, b) :: l)

/-- A READING pair from its two characters (TABLE 47). -/
def ReadingItem.ofChars (q : Byte × Byte) : ReadingItem :=
  { input := ⟨(q.1.extractLsb' 5 3).toNat, by
      have h := (q.1.extractLsb' 5 3).isLt
      simpa using h⟩
    valid := q.1.getLsbD 4
    reading := (q.1.extractLsb' 0 4 : BitVec 4) ++ q.2 }

/-- A FUNCTION body, unless malformed. -/
def parseFunction (cs : List Byte) : Option Body :=
  match twoByTwo cs with
  | some pairs => if pairsWellFormed pairs then some (.function pairs) else none
  | none => none

/-- A READING body, unless malformed. -/
def parseReading (cs : List Byte) : Option Body :=
  match twoByTwo cs with
  | some pairs =>
    if itemsWellFormed (pairs.map ReadingItem.ofChars) then some (.reading (pairs.map ReadingItem.ofChars))
    else none
  | none => none

/-- A STATUS body, unless malformed. -/
def parseStatus : List Byte → Option Body
  | [b, x, d0, d1, d2, d3, supply, faults] =>
    match ReportedState.ofCode (x.extractLsb' 5 3) with
    | some st =>
      some (.status { beat := b, state := st, lc := x.extractLsb' 3 2, charging := x.getLsbD 2,
                      overBudget := x.getLsbD 1, learning := x.getLsbD 0, d0 := d0, d1 := d1, d2 := d2,
                      d3 := d3, supply := supply, faults := faults })
    | none => none
  | _ => none

/-- An ALERT body, unless malformed. -/
def parseAlert : List Byte → Option Body
  | [c, subject] => (AlertCode.ofCode c).map (fun code => .alert code subject)
  | _ => none

/-- A SERVICE QUERY body, unless malformed. -/
def parseQuery : List Byte → Option Body
  | [t, item, a1, a2] => (Station.ofByte t).map (fun p => .query p item a1 a2)
  | _ => none

/-- A SERVICE REPLY body, unless malformed. -/
def parseReply : List Byte → Option Body
  | q :: item :: r :: data =>
    match Station.ofByte q, ReplyResult.ofCode r with
    | some p, some res => if data.length ≤ 9 then some (.reply p item res data) else none
    | _, _ => none
  | _ => none

/-- The kind code of TABLE 47 is a known one. -/
def knownKind (k : Nat) : Bool := k == 1 || k == 4 || k == 8 || k == 12 || k == 20 || k == 24

/-- A body of a known kind, unless malformed for its kind (R146). -/
def parseBody (k : Nat) (cs : List Byte) : Option Body :=
  if k = 1 then parseAlert cs
  else if k = 4 then parseFunction cs
  else if k = 8 then parseReading cs
  else if k = 12 then parseStatus cs
  else if k = 20 then parseQuery cs
  else if k = 24 then parseReply cs
  else none

/-- The tests made at the end of a frame, in TABLE 50's order: check, kind, body. -/
def judgeComplete (c0 c1 : Byte) (rest : List Byte) : Verdict :=
  match rest.reverse with
  | [] => .fault .framing
  | check :: bodyReversed =>
    let body := bodyReversed.reverse
    let kind := (c0.extractLsb' 3 5).toNat
    if check ≠ crc8 (c0 :: c1 :: body) then .fault .check
    else if knownKind kind = false then .fault .unknownKind
    else match parseBody kind body with
      | none => .fault .malformed
      | some bd =>
        .valid { sender := ⟨(c0.extractLsb' 0 3).toNat, by
                   have h := (c0.extractLsb' 0 3).isLt
                   simpa using h⟩
                 seq := c1.extractLsb' 4 4
                 body := bd }

/-- A frame judged as it arrives (R146): a stop bit read dominant or an idle gap before the declared end is a
framing fault; a declared length above 12 is found at character 1, before any later fault; then the tests at
the end. A frame that is heard complete has the declared length. -/
def judge (r : Reception) : Verdict :=
  match r.chars with
  | c0 :: c1 :: rest =>
    if 12 < (c1.extractLsb' 0 4).toNat then .fault .malformed
    else if r.ending ≠ .complete then .fault .framing
    else if rest.length ≠ (c1.extractLsb' 0 4).toNat + 1 then .fault .framing
    else judgeComplete c0 c1 rest
  | _ => .fault .framing

/-- Hearing all characters of a frame. -/
def heardWhole (chars : List Byte) : Reception := { chars := chars, ending := .complete }

/-! ## Which command a heard frame is -/

/-- The service item of a targeted query, as a row of the table (R173 to R175). -/
def commandOfItem (q : Query) (item : Byte) : Instr :=
  if item = 1#8 then .stationReport q
  else if item = 2#8 then .channelReport q
  else if item = 3#8 then .peerReport q
  else if item = 4#8 then .lineCounters q
  else if item = 5#8 then .testChannel q
  else if item = 6#8 then .clearLatch q
  else if item = 7#8 then .restart q
  else .serviceQueryNoSuchItem q item

/-- The command that a valid bulletin is at station `own`. -/
def commandOfBulletin (own : Station) (b : Bulletin) : Instr :=
  match b.body with
  | .alert code subject => .alertReceived b.sender b.seq code subject
  | .function pairs => .functionReceived b.sender b.seq pairs
  | .reading items => .readingReceived b.sender b.seq items
  | .status x => .statusReceived b.sender b.seq x
  | .reply _ _ _ data => .serviceReplyReceived b.sender ⟨b.seq, data.length⟩
  | .query target item a1 a2 =>
    if target = own then commandOfItem { sender := b.sender, seq := b.seq, arg1 := a1, arg2 := a2 } item
    else .serviceQueryOtherTarget b.sender b.seq target

/-- The command that a frame heard at station `own` is (R146): a discard, or the delivery of its bulletin. -/
def commandOfReception (own : Station) (r : Reception) : Instr :=
  match judge r with
  | .valid b => commandOfBulletin own b
  | .fault _ => .frameDiscarded r

end Sys2Proof
end

