-- ==== Sys2Proof/Machine/State.lean ====
section
/-! DEFINITION. Everything the manual gives a KM-46 to hold, block by block (TABLE 2), as plain data, and the
machine right after a reset. INVENTORY.md lists each field with its rule and reset value. -/

namespace Sys2Proof.Machine

/-- Station states (TABLE 57). -/
inductive StationState where
  | start | run | parked | sag | configFault
  deriving DecidableEq, Repr

/-- Configuration fault codes (TABLE 58). -/
inductive FaultCode where
  | noMemory | badCheck | badFormat | noSection | badValue | badCurve | conflict
  deriving DecidableEq, Repr

/-- Line states (R141). -/
inductive LineState where
  | idle | receiving | transmitting | stuck
  deriving DecidableEq, Repr

/-- Presence of a peer (TABLE 53). -/
inductive Presence where
  | unknown | live | parked | stale | absent
  deriving DecidableEq, Repr

/-- Freshness of a view entry (TABLE 9). -/
inductive Freshness where
  | never | fresh | stale
  deriving DecidableEq, Repr

/-- Protection states of a channel (TABLE 36). -/
inductive Protection where
  | normal | blanking | tripped | latched
  deriving DecidableEq, Repr

/-- Trip causes (R104). -/
inductive TripCause where
  | overcurrent | short | stall
  deriving DecidableEq, Repr

/-- The causes that hold the part in reset (R172). `service` stands from the carrying out of a RESTART item
to the end of that reset. -/
structure ResetHold where
  powerOn : Bool
  pin : Bool
  service : Bool
  deriving DecidableEq, Repr

/-- Station Control (R164, R165). `attempts` counts the profile attempts that have ended, `sinceStart` the
microseconds of START. -/
structure StationControl where
  state : StationState
  own : Station
  cause : ResetCause
  fault : Option FaultCode
  parkingPending : Bool
  quiet : Nat
  sagExit : Nat
  attempts : Nat
  sinceStart : Nat
  deriving DecidableEq, Repr

/-- The STATUS schedule (R154). `due` is the model's own: a STATUS is to be made at this instant, after every
change of the instant (log 14); no command ends with it set. -/
structure StatusSchedule where
  count : Nat
  spacing : Nat
  early : Bool
  made : Bool
  due : Bool
  deriving DecidableEq, Repr

/-- The beat timer and the timers beside it, in microseconds (R24, R57, R60, R61, R28). The model's own: `left`, the
events of the present beat boundary that are left to steps of their own, and `validityLeft` and `settledLeft`, the
inputs whose validity change or settling a sampling command of the present instant left so, and `formDue`, that the
channels wait to be formed for the boundary (log 4); `atBoundary`, that the present instant is that of a beat boundary
(log 24); `instant`, the number of the present instant (log 25). -/
structure BeatClock where
  b : Nat
  position : Nat
  atBoundary : Bool
  instant : Nat
  left : List BoundaryEvent
  formDue : Bool
  validityLeft : List InputNo
  settledLeft : List InputNo
  sampled : Bool
  firstBeat : Bool
  sinceSwitch : Nat
  sincePeriod : Nat
  deriving DecidableEq, Repr

/-- The flash state of one side (TABLE 24). -/
structure SideFlash where
  act : Bool
  fast : Bool
  period : Nat
  on : Bool
  failed : Bool
  alertSent : Bool
  deriving DecidableEq, Repr

/-- A pending alignment (R68): the reference, b_ref, the capture's beat c and position p, and the number m of
own boundaries since the captured start bit (R69). -/
structure PendingAlign where
  reference : Station
  bRef : Nat
  beat : Nat
  position : Nat
  boundaries : Nat
  deriving DecidableEq, Repr

/-- The flash unit and the reference station (TABLE 24, R62, R68). -/
structure FlashUnit where
  left : SideFlash
  right : SideFlash
  fallback : Bool
  settle : Nat
  reference : Station
  pendingAlign : Option PendingAlign
  deriving DecidableEq, Repr

/-- A staged value with its count of boundaries remaining (R18). -/
structure Staged where
  value : Nat
  left : Nat
  deriving DecidableEq, Repr

/-- An intrinsic function as the flash unit stages and takes it (R20). -/
structure IntrinsicValue where
  staged : Option Staged
  taken : Nat
  deriving DecidableEq, Repr

/-- The capture of a start bit (R65): own b and position; and, for R67 and R69, the boundaries and the time
passed since (log 12). -/
structure Capture where
  beat : Nat
  position : Nat
  boundaries : Nat
  elapsed : Nat
  deriving DecidableEq, Repr

/-- The eight line counters (R147). -/
structure LineCounters where
  check : Nat
  framing : Nat
  malformed : Nat
  unknownKind : Nat
  txBitErrors : Nat
  txDropped : Nat
  txOverflow : Nat
  stuckEvents : Nat
  deriving DecidableEq, Repr

/-- The Line Interface (R65, R141, R145, R147, R148). `recessive` counts the idle gap in microseconds, `dominant` the
time that an IDLE line is still to be dominant before that count begins (R141, log 11), `frame` is the bulletin being
sent, `ownError` says that the frame in progress was left by an own bit error. -/
structure LineInterface where
  line : LineState
  listenOnly : Bool
  recessive : Nat
  dominant : Nat
  capture : Capture
  ownError : Bool
  frame : List Byte
  counters : LineCounters
  deriving DecidableEq, Repr

/-- An entry of the transmit queue (R150). `restart` marks the reply to an accepted RESTART (R175). -/
structure Entry where
  body : Body
  inFlight : Bool
  attempts : Nat
  restart : Bool
  deriving DecidableEq, Repr

/-- The transmit queue, oldest made first (log 13), and the own sequence number (R145, R150). -/
structure TransmitQueue where
  entries : List Entry
  seq : Nat
  deriving DecidableEq, Repr

/-- An offer to the transmit queue (R151). A FUNCTION pair and a READING set are no entries of their own yet. `restart`
marks the reply to an accepted RESTART (R175). -/
inductive Offer where
  | alert (code : AlertCode) (subject : Byte)
  | pair (q : Byte × Byte)
  | readings (sets : List (List ReadingItem))
  | status (x : StatusBody)
  | reply (querier : Station) (item : Byte) (result : ReplyResult) (data : List Byte) (restart : Bool)
  deriving DecidableEq, Repr

/-- What the present instant has offered to the queue (the model's own, log 27): the queue as the first of these offers
found it, the offers in the order in which R151 places them, and whether the STATUS of the instant has been made and has
not gone IN FLIGHT (R154, log 14). With time it is over. -/
structure InstantOffers where
  before : List Entry
  offers : List Offer
  statusMade : Bool
  deriving DecidableEq, Repr

/-- An instant at which nothing has been offered. -/
def InstantOffers.none : InstantOffers := { before := [], offers := [], statusMade := false }

/-- A stored STATUS record (TABLE 54). -/
structure StoredStatus where
  state : ReportedState
  lc : Nat
  d0 : Nat
  d1 : Nat
  d2 : Nat
  d3 : Nat
  supply : Nat
  faults : Byte
  deriving DecidableEq, Repr

/-- A peer entry (TABLE 53), and the model's own note that IGNITION has restarted it since its last STATUS, which the
reference set may read (R62, R160, log 30). -/
structure Peer where
  presence : Presence
  age : Nat
  lastSeq : Option Nat
  gaps : Nat
  status : Option StoredStatus
  statusAge : Nat
  restarted : Bool
  deriving DecidableEq, Repr

/-- The expected set and its learning window (R162). -/
structure ExpectedSet where
  members : List Station
  learning : Bool
  deriving DecidableEq, Repr

/-- An input terminal (TABLE 17). A sample state or accepted state is `true` for closed. `samples` counts the
sender samples since START, up to 4 (R7, R30). -/
structure Input where
  mode : InputMode
  history : List Bool
  accepted : Bool
  settle : Nat
  ring : List Nat
  reading : Nat
  valid : Bool
  run : Nat
  samples : Nat
  deriving DecidableEq, Repr

/-- The Input Terminals (TABLE 17). `refill`: the first sender sample after PARKED is still to come (R30). -/
structure InputTerminals where
  inputs : List (InputNo × Input)
  supplyRing : List Nat
  vs : Nat
  refill : Bool
  readingCount : Nat
  deriving DecidableEq, Repr

/-- An origin entry (TABLE 7). -/
structure Origin where
  prof : OriginProfile
  present : Option Nat
  sent : Option Nat
  sentValid : Bool
  deriving DecidableEq, Repr

/-- The Origin Table (R2, R6). -/
structure OriginTable where
  entries : List Origin
  refreshCount : Nat
  deriving DecidableEq, Repr

/-- A view entry (TABLE 9). -/
structure ViewEntry where
  function : Nat
  value : Nat
  source : Option Station
  filter : Option Nat
  action : StaleAction
  freshness : Freshness
  age : Nat
  contention : Nat
  refused : Nat
  deriving DecidableEq, Repr

/-- A test override with its remaining beats (R50). -/
structure TestOverride where
  on : Bool
  left : Nat
  deriving DecidableEq, Repr

/-- An open stall window (R118). -/
structure StallWindow where
  left : Nat
  ripple : Nat
  deriving DecidableEq, Repr

/-- The figures of a channel that follow from its composition, as the instant of that number found them: what a further
composition at the same instant starts from (R52; the model's own, log 25). `forms` says that a boundary, or the end of
a wait or a latch, forms the duty at that instant whatever is composed, and `waitEnded` that a retry wait ended at it,
so that the composed value decides the state (R108). -/
structure DriveBase where
  instant : Nat
  forms : Bool
  waitEnded : Bool
  composed : Nat
  target : Nat
  applied : Nat
  vt : Nat
  q : Nat
  underSupply : Bool
  protection : Protection
  blanking : Nat
  overcurrent : Nat
  openCount : Nat
  normalSince : Bool
  window : Option StallWindow
  deriving DecidableEq, Repr

/-- Classes of a gauge's source (TABLE 30). -/
inductive SourceClass where
  | fresh | held | lost
  deriving DecidableEq, Repr

/-- What the boundary of the instant of that number ran a gauge's pipeline from: whether it was held by SAG, its
source's class and reading, and p and d as the boundary found them. A further composition at the same instant runs it
from these again (R52, R83, R98; the model's own, log 25). -/
structure NeedleBase where
  instant : Nat
  sag : Bool
  source : SourceClass
  reading : Nat
  p : Nat
  d : Nat
  deriving DecidableEq, Repr

/-- A channel record: profile part (TABLE 19), live part (TABLE 20), drive figures (R82), protection working counts
(TABLE 36), fan state (TABLE 41). `driven` is the duty in effect in the present pulse period (R57); `dutyHeld` that it
was 256 or more in every period of the beat (R112); `normalSince` that the channel has been in NORMAL since the start
of the beat (R107). The model's own: `shortDue`, that the present period's reading was a short whose trip is left to a
step of its own (R106, log 4); `openLeft`, that the present boundary's open check is to set the OPEN flag by a step of
its own (R112, log 4); `base` and, for a GAUGE, `needle`, what this instant's compositions start from (R52, log 25).
-/
structure Channel where
  prof : ChannelProfile
  demand : Nat
  staged : Option Staged
  taken : Nat
  test : Option TestOverride
  composed : Nat
  target : Nat
  applied : Nat
  underSupply : Bool
  protection : Protection
  cause : Option TripCause
  trips : Nat
  openFlag : Bool
  iOn : Nat
  vt : Nat
  q : Nat
  p : Nat
  d : Nat
  sum : Nat
  number : Nat
  blanking : Nat
  overcurrent : Nat
  openCount : Nat
  wait : Nat
  normalRun : Nat
  release : Nat
  window : Option StallWindow
  peak : Nat
  driven : Nat
  dutyHeld : Bool
  normalSince : Bool
  shortDue : Bool
  openLeft : Bool
  base : Option DriveBase
  needle : Option NeedleBase
  deriving DecidableEq, Repr

/-- An entry of the remote reading cache (R89). -/
structure CacheEntry where
  station : Nat
  input : Nat
  value : Nat
  valid : Bool
  age : Nat
  deriving DecidableEq, Repr

/-- The Budget Unit (TABLE 43). -/
structure Budget where
  d0 : Nat
  d1 : Nat
  d2 : Nat
  d3 : Nat
  charging : Bool
  overBudget : Bool
  lc : Nat
  lowering : Nat
  le : Nat
  deriving DecidableEq, Repr

/-- The station. -/
structure State where
  hold : ResetHold
  stc : StationControl
  common : Option CommonSection
  sched : StatusSchedule
  clock : BeatClock
  flash : FlashUnit
  intrinsics : List (Intrinsic × IntrinsicValue)
  lif : LineInterface
  txq : TransmitQueue
  offered : InstantOffers
  peers : List (Station × Peer)
  expected : ExpectedSet
  itm : InputTerminals
  origins : OriginTable
  view : List ViewEntry
  maps : List MapEntry
  chans : List (ChannelNo × Channel)
  cache : List CacheEntry
  alertSeen : Bool
  budget : Budget
  pending : List Instr
  deriving DecidableEq, Repr

/-- Reasons for which the block could stop. The manual gives every command an effect on state and nothing that
stops the part, so there is none; nobody raises one (safe). -/
inductive Fault where
  deriving DecidableEq, Repr

/-- Reasons for which a command could be refused. -/
inductive Refusal where
  /-- Raised by an arm of `exec` whose command has no meaning yet, by its mnemonic; safe. No arm does. -/
  | notModelled (mnemonic : String)
  deriving DecidableEq, Repr

/-! ## Reset values -/

/-- A side of the flash unit after reset (TABLE 24). -/
def SideFlash.reset : SideFlash :=
  { act := false, fast := false, period := 32, on := false, failed := false, alertSent := false }

/-- A peer entry after reset (TABLE 53). -/
def Peer.reset : Peer :=
  { presence := .unknown, age := 255, lastSeq := none, gaps := 0, status := none, statusAge := 255,
    restarted := false }

/-- An input after reset (TABLE 17). -/
def Input.reset : Input :=
  { mode := .unused, history := [], accepted := false, settle := 0, ring := [], reading := 0, valid := false,
    run := 0, samples := 0 }

/-- The capture after reset: the manual gives none, and this model takes 0 for each figure (R65; DESIGN CHOICE, log 21,
unsafe). Alignment cannot read it: a STATUS is received only after its own start bit was captured. -/
def Capture.reset : Capture := { beat := 0, position := 0, boundaries := 0, elapsed := 0 }

/-- Line counters after reset (R147). -/
def LineCounters.reset : LineCounters :=
  { check := 0, framing := 0, malformed := 0, unknownKind := 0, txBitErrors := 0, txDropped := 0,
    txOverflow := 0, stuckEvents := 0 }

/-- The Budget Unit after reset (TABLE 43). -/
def Budget.reset : Budget :=
  { d0 := 0, d1 := 0, d2 := 0, d3 := 0, charging := false, overBudget := false, lc := 0, lowering := 0, le := 0 }

/-- The number of an intrinsic function (TABLE 4). -/
def intrinsicNumber : Intrinsic → Nat
  | .indicateLeft => 1
  | .indicateRight => 2
  | .hazard => 3
  | .stop => 4
  | .ignition => 5

/-- The fixed stale action of an intrinsic function (R10). -/
def intrinsicAction : Intrinsic → StaleAction
  | .indicateLeft => .off
  | .indicateRight => .off
  | .hazard => .off
  | .stop => .hold
  | .ignition => .hold

/-- The intrinsic functions in ascending number. -/
def allIntrinsics : List Intrinsic := [.indicateLeft, .indicateRight, .hazard, .stop, .ignition]

/-- The stations in ascending number. -/
def allStations : List Station := [0, 1, 2, 3, 4, 5, 6, 7]

/-- The inputs in ascending number. -/
def allInputs : List InputNo := [0, 1, 2, 3, 4, 5, 6, 7]

/-- A view entry that has heard nothing (TABLE 9). -/
def ViewEntry.fresh (f : Nat) (filter : Option Nat) (action : StaleAction) : ViewEntry :=
  { function := f, value := 0, source := none, filter := filter, action := action, freshness := .never,
    age := 0, contention := 0, refused := 0 }

/-- Every block at its reset values at the end of a reset: START begins with the recorded cause and the
station number that the straps read (R164, R165, R172). -/
def State.afterReset (cause : ResetCause) (straps : Station) : State :=
  { hold := { powerOn := false, pin := false, service := false }
    stc := { state := .start, own := straps, cause := cause, fault := none, parkingPending := false, quiet := 0,
             sagExit := 0, attempts := 0, sinceStart := 0 }
    common := none
    sched := { count := 0, spacing := 0, early := false, made := false, due := false }
    clock := { b := 0, position := 0, atBoundary := false, instant := 0, left := [], formDue := false,
               validityLeft := [], settledLeft := [], sampled := false, firstBeat := false, sinceSwitch := 0,
               sincePeriod := 0 }
    flash := { left := SideFlash.reset, right := SideFlash.reset, fallback := false, settle := 0,
               reference := straps, pendingAlign := none }
    intrinsics := allIntrinsics.map (fun f => (f, { staged := none, taken := 0 }))
    lif := { line := .idle, listenOnly := false, recessive := 0, dominant := 0, capture := Capture.reset, ownError := false, frame := [],
             counters := LineCounters.reset }
    txq := { entries := [], seq := 0 }
    offered := InstantOffers.none
    peers := allStations.map (fun p => (p, Peer.reset))
    expected := { members := [], learning := false }
    itm := { inputs := allInputs.map (fun i => (i, Input.reset)), supplyRing := [], vs := 0, refill := false,
             readingCount := 0 }
    origins := { entries := [], refreshCount := 0 }
    view := allIntrinsics.map (fun f => ViewEntry.fresh (intrinsicNumber f) none (intrinsicAction f))
    maps := []
    chans := []
    cache := []
    alertSeen := false
    budget := Budget.reset
    pending := [] }

/-- The machine right after a reset. The manual gives the cause as the reset that ended and the number as the
straps read; POWER-ON and 0 are this model's choice for a machine without a history (DESIGN CHOICE, log 7,
unsafe). -/
def State.reset : State := State.afterReset .powerOn 0

end Sys2Proof.Machine
end

