-- ==== Sys2Proof/Machine/Ops.lean ====
section
/-! DEFINITION. The plain operations every block uses: keyed tables, saturating counts, access to records,
and the passing of time. -/

namespace Sys2Proof.Machine

/-! ## Tables keyed by number -/

/-- The record under a key. -/
def tableGet {κ α : Type} [DecidableEq κ] (k : κ) : List (κ × α) → Option α
  | [] => none
  | (k', a) :: rest => if k = k' then some a else tableGet k rest

/-- The record under a key changed by `f`; the others as they are. -/
def tableModify {κ α : Type} [DecidableEq κ] (k : κ) (f : α → α) (t : List (κ × α)) : List (κ × α) :=
  t.map (fun e => if e.1 = k then (e.1, f e.2) else e)

/-- Every record changed by `f`, which may read its key. -/
def tableMap {κ α : Type} (f : κ → α → α) (t : List (κ × α)) : List (κ × α) :=
  t.map (fun e => (e.1, f e.1 e.2))

/-- A count that stops at 255. -/
def sat255 (n : Nat) : Nat := min 255 n

/-! ## Records of the state -/

/-- The part is held in reset (R172). -/
def State.held (s : State) : Bool := s.hold.powerOn || s.hold.pin || s.hold.service

/-- The beat timer runs: in every state but START, and not while the part is held in reset (R60). -/
def State.timerRuns (s : State) : Bool := !s.held && decide (s.stc.state ≠ .start)

/-- The station has left START for RUN: it is in RUN, SAG or PARKED, and its channels, budget and inputs work. -/
def State.works (s : State) : Bool :=
  !s.held && (decide (s.stc.state = .run) || decide (s.stc.state = .sag) || decide (s.stc.state = .parked))

/-- The record of a channel, if the station section describes it (R41). -/
def State.chan (s : State) (n : ChannelNo) : Option Channel := tableGet n s.chans

/-- One channel record changed. -/
def State.modifyChan (s : State) (n : ChannelNo) (f : Channel → Channel) : State :=
  { s with chans := tableModify n f s.chans }

/-- Every channel record changed by its own number and contents. -/
def State.mapChans (s : State) (f : ChannelNo → Channel → Channel) : State :=
  { s with chans := tableMap f s.chans }

/-- The entry of a peer; the entries exist from the end of a reset on (R155). -/
def State.peer (s : State) (p : Station) : Peer := (tableGet p s.peers).getD Peer.reset

/-- One peer entry changed. -/
def State.modifyPeer (s : State) (p : Station) (f : Peer → Peer) : State :=
  { s with peers := tableModify p f s.peers }

/-- An input terminal. -/
def State.input (s : State) (i : InputNo) : Input := (tableGet i s.itm.inputs).getD Input.reset

/-- The taken value of an intrinsic function (R20). -/
def State.takenOf (s : State) (f : Intrinsic) : Nat :=
  ((tableGet f s.intrinsics).map IntrinsicValue.taken).getD 0

/-- The twelve channel numbers. -/
def allChannels : List ChannelNo := [0, 1, 2, 3, 4, 5, 6, 7, 8, 9, 10, 11]

/-! ## Time -/

/-- The interval between switch sampling instants in a station state (R24). -/
def switchInterval (st : StationState) : Nat :=
  if st = .parked then Config.switchParked else Config.switchRun

/-- The beat timer and the timers beside it after `dt` microseconds. The position waits at 20 ms for the
boundary's own command, the pulse timer at 1 ms for the next period's (log 18). The switch timer runs in RUN,
SAG and PARKED (R24). With time a new instant comes, and what the last one left is over (log 4). -/
def BeatClock.advance (c : BeatClock) (st : StationState) (dt : Nat) : BeatClock :=
  if st = .start then c
  else
    { c with
      position := min Config.beat (c.position + dt)
      atBoundary := c.atBoundary && decide (dt = 0)
      instant := if dt = 0 then c.instant else c.instant + 1
      left := if dt = 0 then c.left else []
      formDue := c.formDue && decide (dt = 0)
      validityLeft := if dt = 0 then c.validityLeft else []
      settledLeft := if dt = 0 then c.settledLeft else []
      sinceSwitch := if st = .configFault then c.sinceSwitch else c.sinceSwitch + dt
      sincePeriod := min Config.pulsePeriod (c.sincePeriod + dt) }

/-- The line after `dt` microseconds without a falling edge: an IDLE line counts its idle gap from the end of what is
dominant on it (R141, R144), and the capture its time since the start bit (R67). -/
def LineInterface.advance (l : LineInterface) (st : StationState) (dt : Nat) : LineInterface :=
  if st = .start then l
  else
    { l with
      recessive := if l.line = .idle then min Config.idleGap (l.recessive + (dt - l.dominant)) else l.recessive
      dominant := if l.line = .idle then l.dominant - dt else l.dominant
      capture := { l.capture with elapsed := l.capture.elapsed + dt } }

/-- The offers of an instant are over when time passes (log 27). -/
def InstantOffers.advance (o : InstantOffers) (st : StationState) (dt : Nat) : InstantOffers :=
  if st = .start ∨ dt = 0 then o else InstantOffers.none

/-- `dt` microseconds pass in which nothing of the table happens. -/
def State.advance (s : State) (dt : Nat) : State :=
  if s.held then s
  else
    { s with
      stc := if s.stc.state = .start then { s.stc with sinceStart := s.stc.sinceStart + dt } else s.stc
      clock := s.clock.advance s.stc.state dt
      lif := s.lif.advance s.stc.state dt
      offered := s.offered.advance s.stc.state dt }

/-- The count of boundaries remaining for a change that arrives now: 1 before the latch point, 2 from it on (R18,
TABLE 11). A change at the instant of a boundary that has been taken lies 0 ms into the new beat, also where an
alignment re-phases that beat at the same instant (R18, R61; DEDUCED, log 24). -/
def State.boundariesLeft (s : State) : Nat :=
  if s.clock.atBoundary then 1 else if s.clock.position < Config.latchPoint then 1 else 2

/-- An event of the present boundary that BEAT_BOUNDARY left to a step of its own (log 4). -/
def State.leftOver (s : State) (e : BoundaryEvent) : Bool := s.timerRuns && s.clock.left.contains e

/-! ## Event counters -/

/-- tx overflow + 1 (R152). -/
def State.countOverflow (s : State) : State :=
  { s with lif := { s.lif with counters :=
      { s.lif.counters with txOverflow := sat255 (s.lif.counters.txOverflow + 1) } } }

end Sys2Proof.Machine
end

