-- ==== Sys2Proof/Machine/Operands.lean ====
section
/-! DEFINITION. What the operands of the sampling commands mean: terminal voltages, supply, sensed current;
and the reading of inputs by origin entries. -/

namespace Sys2Proof.Machine

/-- A supply sample: the voltage in mV rounded down to a multiple of 20, at most 20460 (R36). -/
def supplySample (mv : Nat) : Nat := min 20460 (mv / 20 * 20)

/-- A sender sample: the ratio of the terminal voltage to the sender reference, 0 at earth and 4095 at or above
the reference, with the floor taken (R29). The operand is in microvolts (log 10). -/
def senderSample (uv : Nat) : Nat := min 4095 (4095 * uv / Config.senderReference)

/-- A sample from 40 to 4055 is in range (R29). -/
def senderInRange (x : Nat) : Bool := decide (40 ≤ x) && decide (x ≤ 4055)

/-- A current reading in sense units: 12.75 A or more reads 255 (R102). -/
def currentReading (x : Nat) : Nat := min 255 x

/-- The sample state of a switch input, `true` for closed: the terminal is LOW below floor(3 V_s / 8) and HIGH
above floor(5 V_s / 8); between the two the previous sample repeats, and open stands for none (R23). -/
def switchSample (mode : InputMode) (vs : Nat) (previous : Option Bool) (mv : Nat) : Bool :=
  if mv < 3 * vs / 8 then decide (mode = .switchToEarth)
  else if 5 * vs / 8 < mv then decide (mode = .switchToFeed)
  else previous.getD false

/-- A switch input (R22). -/
def Input.isSwitch (x : Input) : Bool := decide (x.mode = .switchToEarth) || decide (x.mode = .switchToFeed)

/-- A sender input (R22). -/
def Input.isSender (x : Input) : Bool := decide (x.mode = .sender)

/-- A list's last `n` members: what a ring or history of `n` places keeps of it. -/
def lastOf {α : Type} (n : Nat) (l : List α) : List α := l.drop (l.length - n)

/-- Four samples that are all equal to `x` (R25). -/
def allFour (x : Bool) (history : List Bool) : Bool := history == [x, x, x, x]

/-- A switch input at a sampling instant: history, acceptance, settle count (R23, R25, R26). -/
def Input.sampleSwitch (vs mv : Nat) (x : Input) : Input :=
  let sample := switchSample x.mode vs x.history.getLast? mv
  let history := lastOf 4 (x.history ++ [sample])
  { x with
    history := history
    accepted := if allFour true history then true else if allFour false history then false else x.accepted
    settle := min 4 (x.settle + 1) }

/-- A sender input at a sample point: ring, filtered reading, run count; the validity itself changes as an
event of its own when the run count stands at 4 (R29, R30, R31). `refill`: this is the first sample after
PARKED, and fills the ring. -/
def Input.sampleSender (refill : Bool) (uv : Nat) (x : Input) : Input :=
  let sample := senderSample uv
  let ring := if refill then [sample, sample, sample, sample] else lastOf 4 (x.ring ++ [sample])
  { x with
    ring := ring
    reading := if ring.length < 4 then 0 else ring.sum / 4
    run := if senderInRange sample = x.valid then 0 else min 4 (x.run + 1)
    samples := min 4 (x.samples + 1) }

/-- The run count stands at 4: the input's validity is to change (R31). -/
def Input.validityDue (x : Input) : Bool := x.isSender && decide (4 ≤ x.run)

/-- The validity changes and the run count returns to 0 (R31). -/
def Input.flipValidity (x : Input) : Input :=
  if x.validityDue then { x with valid := !x.valid, run := 0 } else x

/-! ## Origin entries -/

/-- The input under a number of the profile. -/
def inputNumbered (inputs : List (InputNo × Input)) (k : Nat) : Input :=
  ((inputs.find? (fun e => e.1.val == k)).map Prod.snd).getD Input.reset

/-- Whether the entry uses an input. -/
def originUses (o : OriginProfile) (k : Nat) : Bool :=
  o.first == k || (decide (o.mode = .pair) && o.second == k)

/-- An input has been sampled four times since entry to RUN (R7, R26, R30). -/
def Input.settled (x : Input) : Bool :=
  if x.isSwitch then decide (4 ≤ x.settle) else decide (4 ≤ x.samples)

/-- Every input the entry uses has settled (R7). -/
def originSettled (inputs : List (InputNo × Input)) (o : OriginProfile) : Bool :=
  (inputNumbered inputs o.first).settled
    && (decide (o.mode ≠ .pair) || (inputNumbered inputs o.second).settled)

/-- The present value an entry forms: SWITCH and PAIR by accepted states (R3, TABLE 8), ANALOG by the filtered
reading and validity (R4). -/
def originValue (inputs : List (InputNo × Input)) (o : OriginProfile) : Nat :=
  let first := inputNumbered inputs o.first
  let second := inputNumbered inputs o.second
  match o.mode with
  | .switch => if first.accepted then o.closedValue else o.openValue
  | .pair =>
    match first.accepted, second.accepted with
    | false, false => o.comboOpenOpen
    | true, false => o.comboClosedOpen
    | false, true => o.comboOpenClosed
    | true, true => o.comboClosedClosed
  | .analog =>
    if first.valid then
      (if o.invert then 255 - (first.reading - o.offset) / 16 else (first.reading - o.offset) / 16)
    else 0

/-- The entry forms its present value again, once its inputs have settled (R3, R4, R7). -/
def Origin.form (inputs : List (InputNo × Input)) (o : Origin) : Origin :=
  if originSettled inputs o.prof then { o with present := some (originValue inputs o.prof) } else o

/-- The present value differs from the last sent by 2 or more, in either direction (R4). -/
def differsByTwo (a b : Nat) : Bool := decide (a + 2 ≤ b) || decide (b + 2 ≤ a)

/-- Whether the present value counts as changed (R4, R5). -/
def Origin.changed (inputs : List (InputNo × Input)) (o : Origin) : Bool :=
  match o.present, o.sent with
  | none, _ => false
  | some _, none => true
  | some v, some w =>
    match o.prof.mode with
    | .analog => (inputNumbered inputs o.prof.first).valid != o.sentValid || differsByTwo v w
    | .switch => v != w
    | .pair => v != w

/-- Offering sets the last sent value, and for ANALOG the last sent validity (R5). -/
def Origin.markSent (inputs : List (InputNo × Input)) (o : Origin) : Origin :=
  { o with
    sent := o.present
    sentValid := if o.prof.mode = .analog then (inputNumbered inputs o.prof.first).valid else o.sentValid }

/-- The pair an entry offers (R5). -/
def Origin.pair (o : Origin) : Byte × Byte :=
  (BitVec.ofNat 8 o.prof.function, BitVec.ofNat 8 (o.present.getD 0))

/-- A pair put in its place by function number. -/
def insertPair (q : Byte × Byte) : List (Byte × Byte) → List (Byte × Byte)
  | [] => [q]
  | r :: rest => if q.1 ≤ r.1 then q :: r :: rest else r :: insertPair q rest

/-- Pairs in ascending function number (R5). -/
def sortPairs (l : List (Byte × Byte)) : List (Byte × Byte) := l.foldr insertPair []

/-! ## The READING (R38) -/

/-- The pair of a sender input as held now (R38, TABLE 47). -/
def Input.readingItem (i : InputNo) (x : Input) : ReadingItem :=
  { input := i, valid := x.valid, reading := BitVec.ofNat 12 x.reading }

/-- The pairs of each member of a READING set: the six lowest-numbered sender inputs, then the rest; none without sender
inputs (R38). -/
def readingSets (inputs : List (InputNo × Input)) : List (List ReadingItem) :=
  let items := inputs.filterMap (fun e => if e.2.isSender then some (e.2.readingItem e.1) else none)
  if items = [] then []
  else if items.length ≤ 6 then [items]
  else [items.take 6, items.drop 6]

/-- The bodies of a READING set (R38). -/
def readingBodies (inputs : List (InputNo × Input)) : List Body := (readingSets inputs).map Body.reading

end Sys2Proof.Machine
end

