-- ==== Sys2Proof/Machine/Drive.lean ====
section
/-! DEFINITION. From a channel's taken value to its applied duty: composition (R49 to R51), the drive computation
(R83 to R87), the ramp (R119), BLANKING entry (R105), and the gauge pipeline (R95 to R100). Each is a function of
one channel record and the few figures it reads. -/

namespace Sys2Proof.Machine

/-! ## Composition -/

/-- Step 2 of R49: a test override replaces the taken value by 255 or 0 (R50). -/
def Channel.underTest (c : Channel) : Nat :=
  match c.test with
  | some t => if t.on then 255 else 0
  | none => c.taken

/-- A channel is shed when its class is greater than 3 − L_e (R51). -/
def Channel.shed (le : Nat) (c : Channel) : Bool := decide (3 - le < c.prof.shedClass)

/-- The shed action on a value: OFF gives 0, CAP the lower of value and cap (R51). -/
def shedValue (a : ShedAction) (v : Nat) : Nat :=
  match a with
  | .off => 0
  | .cap k => min v k

/-- The composed value, in the four steps of R49. -/
def Channel.compose (le : Nat) (parked : Bool) (c : Channel) : Nat :=
  if parked && !c.prof.parkPermitted then 0
  else if c.shed le then shedValue c.prof.action c.underTest
  else c.underTest

/-! ## The drive computation -/

/-- FLASH, STOPFLASH and TELLTALE are switched: duty 0 or 1023 (TABLE 18). -/
def Channel.switched (c : Channel) : Bool :=
  decide (c.prof.kind = .flash) || decide (c.prof.kind = .stopflash) || decide (c.prof.kind = .telltale)

/-- Stage A of a LAMP or FAN: V_t = floor(V_r v / 255) (R84). -/
def levelVoltage (rated v : Nat) : Nat := rated * v / 255

/-- Stage A of a GAUGE: V_zero plus d (V_full − V_zero) / 1000 truncated toward zero (R85). -/
def gaugeVoltage (g : GaugePart) (d : Nat) : Nat :=
  ((g.vZero : Int) + Int.tdiv ((d : Int) * ((g.vFull : Int) - (g.vZero : Int))) 1000).toNat

/-- Stage B: the ratio q = floor(1024 V_t / V_s), 1024 in under-supply (R86). -/
def ratio (vt vs : Nat) : Nat := if vs ≤ vt then 1024 else 1024 * vt / vs

/-- Stage C by the linear law (R87). -/
def linearDuty (q : Nat) : Nat := min 1023 q

/-- Stage C by the square law (R87). -/
def squareDuty (q : Nat) : Nat := min 1023 (q * q / 1024)

/-- Stage C: LAMP square, FAN linear, GAUGE by its law (R87). -/
def Channel.lawDuty (c : Channel) (q : Nat) : Nat :=
  match c.prof.kind with
  | .fan => linearDuty q
  | .gauge => match c.prof.gauge.law with
    | .thermal => squareDuty q
    | .magnetic => linearDuty q
  | _ => squareDuty q

/-- Stages B and C for a target voltage: V_t, q, under-supply flag and target duty (R83, R86, R87). -/
def Channel.stages (vs vt : Nat) (c : Channel) : Channel :=
  { c with
    vt := vt
    q := ratio vt vs
    underSupply := decide (vs ≤ vt)
    target := c.lawDuty (ratio vt vs) }

/-- A target duty formed without the stages: the under-supply flag is cleared, V_t and q stay (R83, R100). -/
def Channel.direct (duty : Nat) (c : Channel) : Channel := { c with target := duty, underSupply := false }

/-- The target duty of a channel of any kind but GAUGE, from its composed value (R83). -/
def Channel.drive (vs : Nat) (c : Channel) : Channel :=
  if c.switched then c.direct (if c.composed = 255 then 1023 else 0)
  else if c.composed = 0 then c.direct 0
  else if c.composed = 255 then c.direct 1023
  else c.stages vs (levelVoltage c.prof.rated c.composed)

/-! ## The gauge pipeline -/

/-- A position on a falling or rising segment, the quotient truncated toward zero (R95). -/
def interpolate (x x1 p1 x2 p2 : Nat) : Nat :=
  ((p1 : Int) + Int.tdiv (((x : Int) - (x1 : Int)) * ((p2 : Int) - (p1 : Int))) ((x2 : Int) - (x1 : Int))).toNat

/-- The curve from the point (x1, p1) on: at or below it, its position; past the last point, that point's
(R95). -/
def curveFrom (x : Nat) : Nat → Nat → List (Nat × Nat) → Nat
  | _, p1, [] => p1
  | x1, p1, (x2, p2) :: rest =>
    if x ≤ x1 then p1
    else if x < x2 then interpolate x x1 p1 x2 p2
    else curveFrom x x2 p2 rest

/-- The position the curve gives for a reading (R95). -/
def curveAt (x : Nat) : List (Nat × Nat) → Nat
  | [] => 0
  | (x1, p1) :: rest => curveFrom x x1 p1 rest

/-- The damping step from d toward p with shift k: the quotient truncated toward zero, forced to 1 in size while
p differs from d (R97). -/
def dampStep (k p d : Nat) : Int :=
  let step := Int.tdiv ((p : Int) - (d : Int)) ((2 : Int) ^ k)
  if step ≠ 0 then step else if d < p then 1 else if p < d then -1 else 0

/-- The displayed position after one damping step (R97). -/
def damp (k p d : Nat) : Nat := ((d : Int) + dampStep k p d).toNat

/-- The update of p and d by the first row of TABLE 31 that holds (R96). `reading` is the source's reading. -/
def Channel.gaugeUpdate (sag : Bool) (cls : SourceClass) (reading : Nat) (c : Channel) : Channel :=
  if sag then c
  else if c.composed = 0 then { c with p := 0, d := damp c.prof.gauge.shift 0 c.d }
  else match cls with
    | .held => c
    | .lost => { c with p := 0, d := damp c.prof.gauge.shift 0 c.d }
    | .fresh =>
      { c with p := curveAt reading c.prof.gauge.curve
               d := damp c.prof.gauge.shift (curveAt reading c.prof.gauge.curve) c.d }

/-- The target duty of a GAUGE from its displayed position: the rest drive, or Stages A to C (R98, R100). -/
def Channel.gaugeDrive (vs : Nat) (c : Channel) : Channel :=
  if c.composed = 0 ∧ c.d = 0 then c.direct 0
  else c.stages vs (gaugeVoltage c.prof.gauge c.d)

/-! ## Applied duty -/

/-- One move of a FAN's applied duty toward its target (R119): a fall goes to the target at once; a rise takes
one step of 64 at a boundary, or from rest. -/
def rampStep (boundary : Bool) (applied target : Nat) : Nat :=
  if target ≤ applied then target
  else if boundary || applied == 0 then min target (applied + 64)
  else applied

/-- The applied duty of a channel in NORMAL or BLANKING; a step from 0 to above 0 enters BLANKING with count 2
(R56, R105). -/
def Channel.setApplied (duty : Nat) (c : Channel) : Channel :=
  if c.applied = 0 ∧ 0 < duty then
    { c with applied := duty, protection := .blanking, blanking := 2, overcurrent := 0, openCount := 0,
             normalSince := false }
  else { c with applied := duty }

/-- The channel is driven: its protection state is NORMAL or BLANKING (R56). -/
def Channel.driveable (c : Channel) : Bool :=
  decide (c.protection = .normal) || decide (c.protection = .blanking)

/-- A stall window closes without a verdict when the target handed on differs from the one held; a window whose
eight beats have run out keeps its verdict (R123, R124). -/
def Channel.closeWindow (held : Nat) (c : Channel) : Channel :=
  if c.target = held then c
  else { c with window := c.window.filter (fun w => w.left == 0) }

/-- The applied duty follows a target duty just formed; `held` is the target before (R56, R119, R123). TRIPPED
and LATCHED keep applied duty 0. -/
def Channel.follow (boundary : Bool) (held : Nat) (c : Channel) : Channel :=
  let c := c.closeWindow held
  if c.driveable then
    c.setApplied (if c.prof.kind = .fan then rampStep boundary c.applied c.target else c.target)
  else c

/-- A window opens at a boundary where none is open, the state is NORMAL, and the applied duty equals a target
of 256 or more (R122). -/
def Channel.openWindow (c : Channel) : Channel :=
  if c.prof.kind = .fan ∧ c.window = none ∧ c.protection = .normal ∧ c.applied = c.target ∧ 256 ≤ c.target then
    { c with window := some { left := 8, ripple := 0 } }
  else c

/-- What a new beat starts from: whether the channel has been in NORMAL from its start (R107), and whether its duty
was 256 or more from its start (R112). -/
def Channel.markBeat (c : Channel) : Channel :=
  { c with normalSince := decide (c.protection = .normal), dutyHeld := decide (256 ≤ c.applied) }

/-! ## One instant, one composition -/

/-- The figures that follow from the channel's composition, as the instant numbered `now` finds them (R52). -/
def Channel.figures (now : Nat) (forms waitEnded : Bool) (c : Channel) : DriveBase :=
  { instant := now, forms := forms, waitEnded := waitEnded, composed := c.composed, target := c.target, applied := c.applied, vt := c.vt,
    q := c.q, underSupply := c.underSupply, protection := c.protection, blanking := c.blanking,
    overcurrent := c.overcurrent, openCount := c.openCount, normalSince := c.normalSince, window := c.window }

/-- The record with those figures. -/
def Channel.withFigures (b : DriveBase) (c : Channel) : Channel :=
  { c with composed := b.composed, target := b.target, applied := b.applied, vt := b.vt, q := b.q,
           underSupply := b.underSupply, protection := b.protection, blanking := b.blanking,
           overcurrent := b.overcurrent, openCount := b.openCount, normalSince := b.normalSince, window := b.window }

/-- The channel was driven in the state the base holds. -/
def DriveBase.driveable (b : DriveBase) : Bool :=
  decide (b.protection = .normal) || decide (b.protection = .blanking)

/-- The retry wait ended at the instant of the base, which left the channel at rest in NORMAL (R108). -/
def DriveBase.leftWait (b : DriveBase) : Bool := b.waitEnded && b.driveable

/-- The base that stands for the instant numbered `now`: taken at it, and with both states driven or the state the
same. -/
def Channel.baseAt (now : Nat) (c : Channel) : Option DriveBase :=
  c.base.filter (fun b => decide (b.instant = now)
    && ((b.driveable && c.driveable) || decide (b.protection = c.protection)))

/-- The record with its figures as the present instant found them: the changes of one instant are composed together,
and the Protection Monitor and the Fan Controller see one step, from before all of them to after (R52; log 25). -/
def Channel.rewound (now : Nat) (c : Channel) : Channel :=
  match c.baseAt now with
  | some b => c.withFigures b
  | none => c

/-- The record with its figures noted as what the present instant found. -/
def Channel.based (now : Nat) (forms waitEnded : Bool) (c : Channel) : Channel :=
  { c with base := some (c.figures now forms waitEnded) }

/-- The applied duty a channel takes from rest: its target, or for a FAN the first step of a ramp (R56, R119). -/
def Channel.fromRest (c : Channel) : Nat := if c.prof.kind = .fan then min c.target 64 else c.target

/-- What a channel at rest in NORMAL becomes as its retry wait ends (R108): at a composed value above 0, BLANKING at the
duty from rest, be that duty 0 or not; else it stays as it is. -/
def Channel.leaveWait (c : Channel) : Channel :=
  if 0 < c.composed then
    { c with protection := .blanking, blanking := 2, overcurrent := 0, openCount := 0, applied := c.fromRest }
  else c

/-- What the boundary of the instant numbered `now` ran the pipeline of a GAUGE from, where one has at it. -/
def Channel.needleAt (now : Nat) (c : Channel) : Option NeedleBase :=
  c.needle.filter (fun k => decide (k.instant = now))

/-- The pipeline of a GAUGE from what a boundary found (R96, R98). -/
def Channel.runNeedle (vs : Nat) (k : NeedleBase) (c : Channel) : Channel :=
  (({ c with p := k.p, d := k.d } : Channel).gaugeUpdate k.sag k.source k.reading).gaugeDrive vs

/-- The target duty formed at an instant (R55, R83): for a GAUGE only where a boundary of that instant has run its
pipeline, which runs again with the composed value that now stands. -/
def Channel.driveNow (vs now : Nat) (c : Channel) : Channel :=
  if c.prof.kind = .gauge then
    match c.needleAt now with
    | some k => c.runNeedle vs k
    | none => c
  else c.drive vs

/-- The channel composes again at an instant (R52, R55, R83), together with what has already changed at this instant.
Where nothing but composition forms a duty at the instant, nothing follows unless the composed value differs from the
one the instant found. Where a boundary has formed the channel at it, or its wait or latch has ended, the duty is
formed from what the instant found, with the one step of a ramp (R56, R119); where a retry wait has ended at it, the
composed value that now stands decides between BLANKING and NORMAL (R108). A GAUGE forms a target duty only where a
boundary has run its pipeline at this instant. -/
def Channel.formNow (vs le : Nat) (parked : Bool) (now : Nat) (atBoundary : Bool) (c : Channel) : Channel :=
  let forms := (c.baseAt now).any DriveBase.forms
  let waitEnded := (c.baseAt now).any DriveBase.leftWait
  let found := c.rewound now
  let composed : Channel := { found.based now forms waitEnded with composed := c.compose le parked }
  if c.compose le parked = c.composed then c
  else if waitEnded then (composed.driveNow vs now).leaveWait.openWindow.markBeat
  else if c.prof.kind = .gauge ∧ c.needleAt now = none then { c with composed := c.compose le parked }
  else
    if composed.composed = found.composed ∧ forms = false then composed
    else
      let driven := if composed.composed = found.composed ∧ atBoundary = false then composed
                    else composed.driveNow vs now
      if forms && atBoundary then (driven.follow true found.target).openWindow.markBeat
      else driven.follow forms found.target

/-- The channel at a boundary (R52, R55, R83, R98): composed again, its target duty formed whatever changed, its
applied duty following with the boundary's ramp step, from what the instant found (R52). -/
def Channel.formBoundary (vs le : Nat) (parked sag : Bool) (now : Nat) (cls : SourceClass) (reading : Nat)
    (c : Channel) : Channel :=
  let found := c.rewound now
  let composed : Channel := { found.based now true false with composed := c.compose le parked }
  if c.prof.kind = .gauge then
    let k : NeedleBase := { instant := now, sag := sag, source := cls, reading := reading, p := c.p, d := c.d }
    (({ composed with needle := some k } : Channel).runNeedle vs k).follow true found.target
  else (composed.drive vs).follow true found.target

/-! ## The fan's stall window -/

/-- The dip that makes a ripple pulse: the larger of 1 and floor(I_n / 8) (R121). -/
def Channel.rippleThreshold (c : Channel) : Nat := max 1 (c.prof.nominal / 8)

/-- A ripple pulse in an open window: counted up to 255 (R121). -/
def StallWindow.pulse (w : StallWindow) : StallWindow := { w with ripple := sat255 (w.ripple + 1) }

/-- The ripple detector meets a sensed current: the peak follows a rise; a fall by the threshold is a pulse,
counted by an open window up to 255, and resets the peak (R121). -/
def Channel.ripple (x : Nat) (c : Channel) : Channel :=
  if c.peak ≤ x then { c with peak := x }
  else if c.rippleThreshold ≤ c.peak - x then
    { c with peak := x
             window := c.window.map StallWindow.pulse
             base := c.base.map (fun b => { b with window := b.window.map StallWindow.pulse }) }
  else c

/-! ## Building a record -/

/-- A channel record as built at entry to RUN (R43, R82, R103, R118). -/
def Channel.build (prof : ChannelProfile) : Channel :=
  { prof := prof, demand := 0, staged := none, taken := 0, test := none, composed := 0, target := 0, applied := 0,
    underSupply := false, protection := .normal, cause := none, trips := 0, openFlag := false, iOn := 0, vt := 0,
    q := 0, p := 0, d := 0, sum := 0, number := 0, blanking := 0, overcurrent := 0, openCount := 0, wait := 0,
    normalRun := 0, release := 0, window := none, peak := 0, driven := 0, dutyHeld := false, normalSince := true,
    shortDue := false, openLeft := false, base := none, needle := none }

end Sys2Proof.Machine
end

