-- ==== Sys2Proof/Machine/Flags.lean ====
section
/-! DEFINITION. What the blocks compute from the state for each other and for the line: flash demand and
underlying demand (TABLES 21 and 25), the lamp warning (R116), the fault summary (TABLE 49), the STATUS body
(TABLE 48), and the data of the report items (TABLE 60). -/

namespace Sys2Proof.Machine

/-! ## Flash demand and underlying demand -/

/-- act of a channel's side (R71); EITHER is either side's, WARN has none. -/
def FlashUnit.actOf (fl : FlashUnit) : Side → Bool
  | .left => fl.left.act
  | .right => fl.right.act
  | .either => fl.left.act || fl.right.act
  | .warn => false

/-- on of a channel's side (R73). -/
def FlashUnit.onOf (fl : FlashUnit) : Side → Bool
  | .left => fl.left.on
  | .right => fl.right.on
  | .either => fl.left.on || fl.right.on
  | .warn => false

/-- 255 or 0. -/
def level (x : Bool) : Nat := if x then 255 else 0

/-- The flash demand for the beat (TABLE 25); `stop` is STOP's taken value. -/
def flashDemand (fl : FlashUnit) (stop : Nat) (p : ChannelProfile) : Nat :=
  match p.kind with
  | .flash => level (fl.onOf p.side)
  | .stopflash => if fl.actOf p.side then level (fl.onOf p.side) else level (decide (0 < stop))
  | .telltale => level (fl.onOf p.side)
  | _ => 0

/-- The taken value of a LAMP or FAN as it stands after the changes of a boundary that is in progress: a staged
value whose count has reached 0 is the one it takes (R19, R48). -/
def Channel.takenAtBoundary (c : Channel) : Nat :=
  match c.staged with
  | some x => if x.left = 0 then x.value else c.taken
  | none => c.taken

/-- The underlying demand (TABLE 21, R48). -/
def Channel.underlying (fl : FlashUnit) (stop : Nat) (c : Channel) : Nat :=
  match c.prof.kind with
  | .lamp => c.takenAtBoundary
  | .fan => c.takenAtBoundary
  | .flash => level (fl.actOf c.prof.side)
  | .stopflash => level (fl.actOf c.prof.side || decide (0 < stop))
  | .telltale => if c.prof.side = .warn then c.taken else level (fl.actOf c.prof.side)
  | .gauge => c.taken

/-! ## Lamp warning and fault summary -/

/-- The own part of the lamp warning: an OPEN flag or a LATCHED channel (R116). -/
def Channel.faulty (c : Channel) : Bool := c.openFlag || decide (c.protection = .latched)

/-- A LIVE peer whose last STATUS shows an OPEN flag or a LATCHED channel (R116). -/
def Peer.warns (p : Peer) : Bool :=
  decide (p.presence = .live)
    && match p.status with
       | some x => x.faults.getLsbD 0 || x.faults.getLsbD 1
       | none => false

/-- The peers, less the entry of the own number, which no block reads (R155). -/
def State.others (s : State) : List (Station × Peer) := s.peers.filter (fun e => e.1 != s.stc.own)

/-- The lamp warning condition (R116). -/
def State.lampWarning (s : State) : Bool :=
  s.chans.any (fun e => e.2.faulty) || s.others.any (fun e => e.2.warns) || s.alertSeen

/-- A FAN channel TRIPPED or LATCHED with cause STALL (R58, R125). -/
def Channel.stalled (c : Channel) : Bool :=
  decide (c.prof.kind = .fan) && decide (c.cause = some .stall) && !c.driveable

/-- Any sender input invalid (R33). -/
def State.senderInvalid (s : State) : Bool := s.itm.inputs.any (fun e => e.2.isSender && !e.2.valid)

/-- The fault summary (TABLE 49), bit 7 first. -/
def State.faultSummary (s : State) : Byte :=
  ((((((BitVec.ofBool s.senderInvalid
    ++ BitVec.ofBool (s.chans.any (fun e => e.2.underSupply)))
    ++ BitVec.ofBool s.budget.overBudget)
    ++ BitVec.ofBool (s.chans.any (fun e => e.2.stalled)))
    ++ BitVec.ofBool s.flash.right.failed)
    ++ BitVec.ofBool s.flash.left.failed)
    ++ BitVec.ofBool (s.chans.any (fun e => decide (e.2.protection = .latched))))
    ++ BitVec.ofBool (s.chans.any (fun e => e.2.openFlag))

/-! ## STATUS -/

/-- The state a STATUS carries: PARKED while parking is pending (R164), else the station state. START sends
nothing and stands here as RUN, which is never read. -/
def State.reportedState (s : State) : ReportedState :=
  if s.stc.parkingPending then .parked
  else match s.stc.state with
    | .start => .run
    | .run => .run
    | .parked => .parked
    | .sag => .sag
    | .configFault => .configFault

/-- A STATUS body from the values of this instant; the beat field is written again at each attempt (R154, R64,
TABLE 48, R37). -/
def State.statusBody (s : State) : StatusBody :=
  { beat := BitVec.ofNat 8 s.clock.b
    state := s.reportedState
    lc := BitVec.ofNat 2 s.budget.lc
    charging := s.budget.charging
    overBudget := s.budget.overBudget
    learning := s.expected.learning
    d0 := BitVec.ofNat 8 s.budget.d0
    d1 := BitVec.ofNat 8 s.budget.d1
    d2 := BitVec.ofNat 8 s.budget.d2
    d3 := BitVec.ofNat 8 s.budget.d3
    supply := BitVec.ofNat 8 (s.itm.vs / 100)
    faults := s.faultSummary }

/-- The figures whose change is an early change for the STATUS schedule: D_c, L_c, station state, fault summary
(R154). -/
structure EarlyFigures where
  d0 : Nat
  d1 : Nat
  d2 : Nat
  d3 : Nat
  lc : Nat
  state : StationState
  faults : Byte
  deriving DecidableEq, Repr

/-- The early figures as they stand. -/
def State.earlyFigures (s : State) : EarlyFigures :=
  { d0 := s.budget.d0, d1 := s.budget.d1, d2 := s.budget.d2, d3 := s.budget.d3, lc := s.budget.lc,
    state := s.stc.state, faults := s.faultSummary }

/-! ## Report data (TABLE 60) -/

/-- State codes as STATUS carries them; START answers no query. -/
def StationState.code : StationState → BitVec 3
  | .start => 0#3
  | .run => 1#3
  | .parked => 2#3
  | .sag => 3#3
  | .configFault => 4#3

/-- Reset cause codes (TABLE 60). -/
def causeCode : ResetCause → BitVec 2
  | .powerOn => 1#2
  | .pin => 2#2
  | .serviceRestart => 3#2

/-- Fault codes (TABLE 60). -/
def faultCode : Option FaultCode → BitVec 3
  | none => 0#3
  | some .noMemory => 1#3
  | some .badCheck => 2#3
  | some .badFormat => 3#3
  | some .noSection => 4#3
  | some .badValue => 5#3
  | some .badCurve => 6#3
  | some .conflict => 7#3

/-- Kind codes of a CHANNEL REPORT (TABLE 60). -/
def kindCode : ChannelKind → BitVec 3
  | .lamp => 1#3
  | .flash => 2#3
  | .stopflash => 3#3
  | .telltale => 4#3
  | .fan => 5#3
  | .gauge => 6#3

/-- Protection codes (TABLE 60). -/
def protectionCode : Protection → BitVec 2
  | .normal => 0#2
  | .blanking => 1#2
  | .tripped => 2#2
  | .latched => 3#2

/-- Trip cause codes (TABLE 60). -/
def tripCauseCode : Option TripCause → BitVec 2
  | none => 0#2
  | some .overcurrent => 1#2
  | some .short => 2#2
  | some .stall => 3#2

/-- Presence codes (TABLE 60). -/
def presenceCode : Presence → BitVec 3
  | .unknown => 0#3
  | .live => 1#3
  | .parked => 2#3
  | .stale => 3#3
  | .absent => 4#3

/-- High character of a figure of two characters. -/
def highChar (n : Nat) : Byte := BitVec.ofNat 8 (n / 256)

/-- Low character of a figure of two characters. -/
def lowChar (n : Nat) : Byte := BitVec.ofNat 8 n

/-- FUNCTION CONTENTION: any contention count above 0 (R21). -/
def State.functionContention (s : State) : Bool := s.view.any (fun e => decide (0 < e.contention))

/-- FUNCTION REFUSED: any refused count above 0 (R21). -/
def State.functionRefused (s : State) : Bool := s.view.any (fun e => decide (0 < e.refused))

/-- Data of the STATION REPORT (TABLE 60, item 1). -/
def State.stationReport (s : State) : List Byte :=
  [ (s.stc.state.code ++ causeCode s.stc.cause) ++ faultCode s.stc.fault,
    highChar s.itm.vs,
    lowChar s.itm.vs,
    (0#4 ++ BitVec.ofNat 2 s.budget.lc) ++ BitVec.ofNat 2 s.budget.le,
    ((((((BitVec.ofBool s.lif.listenOnly ++ BitVec.ofBool (decide (s.lif.line = .stuck)))
      ++ BitVec.ofBool s.budget.charging) ++ BitVec.ofBool s.budget.overBudget)
      ++ BitVec.ofBool s.lampWarning) ++ BitVec.ofBool s.alertSeen)
      ++ BitVec.ofBool s.functionContention) ++ BitVec.ofBool s.functionRefused,
    (((0#4 ++ BitVec.ofBool s.expected.learning) ++ BitVec.ofBool s.flash.fallback)
      ++ BitVec.ofBool s.flash.pendingAlign.isSome) ++ BitVec.ofBool (decide (s.flash.reference = s.stc.own)) ]

/-- Data of the CHANNEL REPORT (TABLE 60, item 2). -/
def Channel.report (c : Channel) : List Byte :=
  [ (kindCode c.prof.kind ++ protectionCode c.protection) ++ 0#3,
    ((((BitVec.ofNat 2 c.trips ++ tripCauseCode c.cause) ++ BitVec.ofBool c.openFlag)
      ++ BitVec.ofBool c.underSupply) ++ BitVec.ofBool c.test.isSome) ++ BitVec.ofBool c.staged.isSome,
    highChar c.applied,
    lowChar c.applied,
    BitVec.ofNat 8 c.iOn,
    BitVec.ofNat 8 c.taken ]

/-- The first character of a PEER REPORT: presence, STATUS held, L_c (TABLE 60, item 3). -/
def peerReportChar (presence : Presence) (isHeld : Bool) (lc : Nat) : Byte :=
  ((presenceCode presence ++ BitVec.ofBool isHeld) ++ 0#2) ++ BitVec.ofNat 2 lc

/-- Data of the PEER REPORT (TABLE 60, item 3); without a STATUS its figures read 0. -/
def Peer.report (p : Peer) : List Byte :=
  match p.status with
  | some x =>
    [ peerReportChar p.presence true x.lc, BitVec.ofNat 8 p.age, BitVec.ofNat 8 p.gaps, BitVec.ofNat 8 x.d0,
      BitVec.ofNat 8 x.d1, BitVec.ofNat 8 x.d2, BitVec.ofNat 8 x.d3, BitVec.ofNat 8 x.supply, x.faults ]
  | none =>
    [ peerReportChar p.presence false 0, BitVec.ofNat 8 p.age, BitVec.ofNat 8 p.gaps, 0#8, 0#8, 0#8, 0#8, 0#8,
      0#8 ]

/-- Data of the LINE COUNTERS (TABLE 60, item 4). -/
def LineCounters.report (c : LineCounters) : List Byte :=
  [ BitVec.ofNat 8 c.check, BitVec.ofNat 8 c.framing, BitVec.ofNat 8 c.malformed, BitVec.ofNat 8 c.unknownKind,
    BitVec.ofNat 8 c.txBitErrors, BitVec.ofNat 8 c.txDropped, BitVec.ofNat 8 c.txOverflow,
    BitVec.ofNat 8 c.stuckEvents ]

/-! ## Output terminals (R57, R176) -/

/-- How a terminal stands toward its transistor: it sources drive, sinks drive, or is released (R176). -/
inductive TerminalLevel where
  | sources | sinks | highImpedance
  deriving DecidableEq, Repr

/-- The on level by the earth polarity: NEGATIVE sources drive for a transistor in the feed side, POSITIVE sinks drive for
one toward the positive chassis (R176). -/
def onLevel : Polarity → TerminalLevel
  | .negative => .sources
  | .positive => .sinks

/-- The off level is the opposite of the on level (R176). -/
def offLevel : Polarity → TerminalLevel
  | .negative => .sinks
  | .positive => .sources

/-- What an output terminal does: released to high impedance; its off level; or pulses of 1 ms period, on for
duty / 1023 of each, at the polarity that sets the on level. -/
inductive TerminalDrive where
  | released
  | off (polarity : Polarity)
  | pulsing (polarity : Polarity) (duty : Nat)
  deriving DecidableEq, Repr

/-- For how many 1023rds of a pulse period the terminal is on (R57). -/
def TerminalDrive.onShare : TerminalDrive → Nat
  | .pulsing _ duty => duty
  | _ => 0

/-- The level of a terminal within the on-time of a pulse period, or outside it (R57, R176). -/
def TerminalDrive.level (onTime : Bool) : TerminalDrive → TerminalLevel
  | .released => .highImpedance
  | .off polarity => offLevel polarity
  | .pulsing polarity _ => if onTime then onLevel polarity else offLevel polarity

/-- The drive of a terminal: released in reset, START and CONFIG FAULT; else the off level without a record or at
duty 0, or pulses at the duty in effect (R57, R176). -/
def State.terminalDrive (s : State) (n : ChannelNo) : TerminalDrive :=
  if s.works then
    match s.common, s.chan n with
    | some com, some c => if c.driven = 0 then .off com.polarity else .pulsing com.polarity c.driven
    | some com, none => .off com.polarity
    | none, _ => .released
  else .released

end Sys2Proof.Machine
end

