-- ==== Sys2Proof/Machine/View.lean ====
section
/-! DEFINITION. The Function View, the map resolution and the staging of demand (R11 to R18), and what a change
of a tracked value does to Station Control: the quiet count, a pending parking, a wake (R169 to R171). -/

namespace Sys2Proof.Machine

/-! ## Station Control's part -/

/-- A pending parking is abandoned: the flag clears, the quiet count restarts, a STATUS is due (R170). -/
def State.abandonParking (s : State) : State :=
  if s.stc.parkingPending then
    { s with stc := { s.stc with parkingPending := false, quiet := 0 }, sched := { s.sched with due := true } }
  else s

/-- A station in PARKED wakes into RUN: a STATUS is due, the refresh and reading counts restart, and the next
sender sample fills the rings (R171, R6, R39, R30). -/
def State.wake (s : State) : State :=
  if s.stc.state = .parked then
    { s with
      stc := { s.stc with state := .run, quiet := 0 }
      sched := { s.sched with due := true }
      origins := { s.origins with refreshCount := 0 }
      itm := { s.itm with readingCount := 0, refill := true } }
  else s

/-- A targeted SERVICE QUERY: wakes a parked station, abandons a pending parking (R170, R171, R173). -/
def State.queried (s : State) : State := s.abandonParking.wake

/-- An accepted switch change, a change of a tracked resolved value, or the setting of a test override: the
quiet count restarts, a pending parking is abandoned, a parked station wakes (R169, R170, R171). -/
def State.disturb (s : State) : State :=
  ({ s with stc := { s.stc with quiet := 0 } } : State).queried

/-! ## Resolved values -/

/-- The resolved value of a view entry (TABLE 10). -/
def ViewEntry.resolved (e : ViewEntry) : Nat :=
  match e.freshness, e.action with
  | .stale, .off => 0
  | .stale, .on => 255
  | _, _ => e.value

/-- The resolved value of a function in a view; a function without an entry has 0. -/
def resolvedIn (view : List ViewEntry) (f : Nat) : Nat :=
  match view.find? (fun e => e.function == f) with
  | some e => e.resolved
  | none => 0

/-- A map entry's result (R17). -/
def mapResult (view : List ViewEntry) (m : MapEntry) : Nat :=
  match m.mode with
  | .direct => resolvedIn view m.function
  | .switched => if 0 < resolvedIn view m.function then 255 else 0

/-- The function-derived demand of a channel: the largest result of its map entries, 0 without one (R17). -/
def demandOf (maps : List MapEntry) (view : List ViewEntry) (n : ChannelNo) : Nat :=
  (maps.filter (fun m => m.channel == n.val)).foldl (fun acc m => max acc (mapResult view m)) 0

/-- LAMP and FAN channels take their demand from the function map (TABLE 18). -/
def Channel.mapped (c : Channel) : Bool := decide (c.prof.kind = .lamp) || decide (c.prof.kind = .fan)

/-- A newly resolved demand: taken by the record and staged if it differs (R17, R18). -/
def Channel.stageDemand (demand left : Nat) (c : Channel) : Channel :=
  if demand = c.demand then c else { c with demand := demand, staged := some { value := demand, left := left } }

/-- A change of an intrinsic function's resolved value is staged by the flash unit (R20). -/
def IntrinsicValue.stage (value left : Nat) (x : IntrinsicValue) : IntrinsicValue :=
  { x with staged := some { value := value, left := left } }

/-- The new resolved values of functions are handed to the map resolution of their channels and, for intrinsic
functions, to the flash unit (R15, R17, R18, R20). A channel resolves once for all of them. -/
def State.stageFunctions (fs : List Nat) (s : State) : State :=
  { s with
    intrinsics := tableMap (fun i x =>
      if fs.contains (intrinsicNumber i) then x.stage (resolvedIn s.view (intrinsicNumber i)) s.boundariesLeft
      else x) s.intrinsics
    chans := tableMap (fun n c =>
      if c.mapped && s.maps.any (fun m => m.channel == n.val && fs.contains m.function) then
        c.stageDemand (demandOf s.maps s.view n) s.boundariesLeft
      else c) s.chans }

/-- The functions of a view whose resolved values differ from those in the view before. -/
def changedFunctions (before after : List ViewEntry) : List Nat :=
  (after.map ViewEntry.function).filter (fun f => resolvedIn before f != resolvedIn after f)

/-- Every resolved value that differs from the view before is handed on, all of them together: to the stagers and to
Station Control (R15, R17, R19). That a channel resolves its demand once for the changes that one event makes at one
instant, from the values after all of them, is read from R12 and R19 (DEDUCED, log 23). -/
def State.handOnSince (before : List ViewEntry) (s : State) : State :=
  if changedFunctions before s.view = [] then s else (s.stageFunctions (changedFunctions before s.view)).disturb

/-- The view after the changes that one event makes, and what they hand on (R15). -/
def State.withView (view : List ViewEntry) (s : State) : State := ({ s with view := view } : State).handOnSince s.view

/-! ## The view update -/

/-- A pair refused by the entry's filter (R11, step 2). -/
def ViewEntry.refuses (src : Station) (e : ViewEntry) : Bool :=
  match e.filter with
  | some g => g != src.val
  | none => false

/-- Steps 3 and 4 of R11. -/
def ViewEntry.update (v : Nat) (src : Station) (e : ViewEntry) : ViewEntry :=
  { e with
    value := v
    source := some src
    freshness := .fresh
    age := 0
    contention := if e.freshness = .fresh ∧ e.source ≠ some src then sat255 (e.contention + 1)
                  else e.contention }

/-- The view with the entry of a function changed. -/
def modifyEntry (f : Nat) (g : ViewEntry → ViewEntry) (view : List ViewEntry) : List ViewEntry :=
  view.map (fun e => if e.function = f then g e else e)

/-- A pair for the entry from a station: refused by the filter, or taken (R11, steps 2 to 4). -/
def ViewEntry.hear (v : Nat) (src : Station) (e : ViewEntry) : ViewEntry :=
  if e.refuses src then { e with refused := sat255 (e.refused + 1) } else e.update v src

/-- Pairs from a station, received or own-origin, applied one after another to a view (R8, R11, R12). -/
def hearPairs (src : Station) (pairs : List (Byte × Byte)) (view : List ViewEntry) : List ViewEntry :=
  pairs.foldl (fun view q => modifyEntry q.1.toNat (ViewEntry.hear q.2.toNat src) view) view

/-- The pairs of one instant reach the view (R8, R11, R12). -/
def State.applyPairs (src : Station) (pairs : List (Byte × Byte)) (s : State) : State :=
  s.withView (hearPairs src pairs s.view)

/-- A FRESH entry becomes STALE (R13, R14). -/
def ViewEntry.expire (e : ViewEntry) : ViewEntry :=
  if e.freshness = .fresh then { e with freshness := .stale } else e

/-- A FRESH entry that is to go STALE at this boundary: age 128 or more, a source that is not this station and
is not PARKED (R13). -/
def State.viewStaleDue (s : State) (e : ViewEntry) : Bool :=
  decide (e.freshness = .fresh) && decide (Config.viewStaleAge ≤ e.age)
    && match e.source with
       | some src => src != s.stc.own && decide ((s.peer src).presence ≠ .parked)
       | none => true

/-- The entries that `p` picks go STALE where they are to at this boundary (R13). -/
def State.expireEntries (p : ViewEntry → Bool) (s : State) : State :=
  { s with view := s.view.map (fun e => if p e && s.viewStaleDue e then e.expire else e) }

end Sys2Proof.Machine
end

