-- ==== Sys2Proof/Machine/Queue.lean ====
section
/-! DEFINITION. The Transmit Queue (R150 to R153): where an offer is placed, what a full queue gives up, which
entry an attempt takes, and how an entry returns to WAITING; then the offers of one instant, placed
together, with the own-origin update of dropped pairs (R8), the loss of a parking STATUS (R170) and of a RESTART's
reply (R175). -/

namespace Sys2Proof.Machine

/-! ## Entries -/

/-- A new entry is WAITING with attempt count 0 (R150). -/
def Entry.make (body : Body) : Entry := { body := body, inFlight := false, attempts := 0, restart := false }

/-- A WAITING entry of a kind. -/
def Entry.waits (kind : Nat) (e : Entry) : Bool := !e.inFlight && e.body.kind == kind

/-- The pairs of a FUNCTION entry. -/
def Entry.pairs (e : Entry) : List (Byte × Byte) :=
  match e.body with
  | .function pairs => pairs
  | _ => []

/-- The entry holds a function. -/
def Entry.holds (f : Byte) (e : Entry) : Bool := e.pairs.any (fun q => q.1 == f)

/-- A STATUS carrying PARKED (R170). -/
def Entry.parkedStatus (e : Entry) : Bool :=
  match e.body with
  | .status x => decide (x.state = .parked)
  | _ => false

/-- The first entry that `p` picks, changed by `f`. -/
def modifyFirst (p : Entry → Bool) (f : Entry → Entry) : List Entry → List Entry
  | [] => []
  | e :: rest => if p e then f e :: rest else e :: modifyFirst p f rest

/-- The first entry that `p` picks, taken out. -/
def removeFirst (p : Entry → Bool) : List Entry → List Entry
  | [] => []
  | e :: rest => if p e then rest else e :: removeFirst p rest

/-- The newest entry that `p` picks, changed by `f`. -/
def modifyNewest (p : Entry → Bool) (f : Entry → Entry) (l : List Entry) : List Entry :=
  (modifyFirst p f l.reverse).reverse

/-- The newest entry that `p` picks, taken out. -/
def removeNewest (p : Entry → Bool) (l : List Entry) : List Entry := (removeFirst p l.reverse).reverse

/-- A pair's value put in place of the one held for its function. -/
def setPair (q : Byte × Byte) (pairs : List (Byte × Byte)) : List (Byte × Byte) :=
  pairs.map (fun r => if r.1 = q.1 then q else r)

/-- The entry with the pair's value in place of the held one. -/
def Entry.setPair (q : Byte × Byte) (e : Entry) : Entry :=
  { e with body := .function (Machine.setPair q e.pairs) }

/-- The entry with the pair appended. -/
def Entry.appendPair (q : Byte × Byte) (e : Entry) : Entry := { e with body := .function (e.pairs ++ [q]) }

/-- A WAITING FUNCTION entry with room for another pair (R151). -/
def Entry.hasRoom (e : Entry) : Bool := e.waits 4 && decide (e.pairs.length < 6)

/-- The first two placings of a FUNCTION pair (R151): in place of the value a WAITING entry holds for the
function, or appended to the newest WAITING FUNCTION entry with fewer than 6 pairs; none when it needs a new
entry. -/
def placePair (q : Byte × Byte) (l : List Entry) : Option (List Entry) :=
  if l.any (fun e => e.waits 4 && e.holds q.1) then
    some (modifyFirst (fun e => e.waits 4 && e.holds q.1) (Entry.setPair q) l)
  else if l.any Entry.hasRoom then some (modifyNewest Entry.hasRoom (Entry.appendPair q) l)
  else none

/-- A new READING set in the places of the WAITING READING entries (R151): the queue, and the members that
still need a place. -/
def placeReadings : List Body → List Entry → List Entry × List Body
  | bodies, [] => ([], bodies)
  | bodies, e :: rest =>
    if e.waits 8 then
      match bodies with
      | [] => placeReadings [] rest
      | b :: bs => (Entry.make b :: (placeReadings bs rest).1, (placeReadings bs rest).2)
    else (e :: (placeReadings bodies rest).1, (placeReadings bodies rest).2)

/-- The kind that a full queue gives up for an ALERT or FUNCTION: SERVICE REPLY first, then STATUS, then READING
(R152). -/
def displacedKind (l : List Entry) : Option Nat := [24, 12, 8].find? (fun k => l.any (Entry.waits k))

/-- The value a function has in the WAITING FUNCTION entries, or the pair's own (R151). -/
def newestValue (waiting : List Entry) (q : Byte × Byte) : Byte × Byte :=
  match waiting.find? (fun e => e.holds q.1) with
  | some e => ((e.pairs.find? (fun r => r.1 == q.1)).getD q)
  | none => q

/-- An entry as it returns from IN FLIGHT: a FUNCTION takes over the values that stand for its functions in the
WAITING FUNCTION entries (R151). -/
def Entry.returned (waiting : List Entry) (e : Entry) : Entry :=
  { e with
    inFlight := false
    body := match e.body with
      | .function pairs => .function (pairs.map (newestValue waiting))
      | b => b }

/-- A WAITING FUNCTION entry without the pairs of some functions; gone if it is left without pairs (R151). -/
def Entry.withoutPairs (functions : List Byte) (e : Entry) : Option Entry :=
  if e.waits 4 && e.pairs.any (fun q => functions.contains q.1) then
    (match e.pairs.filter (fun q => !functions.contains q.1) with
     | [] => none
     | pairs => some { e with body := .function pairs })
  else some e

/-- The functions of the entry IN FLIGHT. -/
def flightFunctions (l : List Entry) : List Byte :=
  match l.find? Entry.inFlight with
  | some e => e.pairs.map Prod.fst
  | none => []

/-- The entry IN FLIGHT returns to WAITING (R144, R145). A FUNCTION takes over the values of its functions that stand
in other WAITING FUNCTION entries, and these lose the pairs (R151). A STATUS beside which a newer one waits gives way
to it, since at most one STATUS waits (R150; DEDUCED, log 20). -/
def returnToWaiting (l : List Entry) : List Entry :=
  l.filterMap (fun e =>
    if e.inFlight then
      (if e.body.kind == 12 && l.any (Entry.waits 12) then none else some (e.returned (l.filter (Entry.waits 4))))
    else e.withoutPairs (flightFunctions l))

/-! ## Transmit permission and attempt order -/

/-- Kinds a station may send in a state (TABLE 51). -/
def mayKind (st : StationState) (kind : Nat) : Bool :=
  match st with
  | .start => false
  | .run => true
  | .sag => true
  | .parked => false
  | .configFault => kind == 12 || kind == 24

/-- The station may send entries of a kind: by its state, and not while LISTEN-ONLY or STUCK (R153). -/
def State.maySend (s : State) (kind : Nat) : Bool :=
  !s.held && !s.lif.listenOnly && decide (s.lif.line ≠ .stuck) && mayKind s.stc.state kind

/-- The kind the attempt order chooses: the lowest code among WAITING entries the station may send (R150). -/
def State.nextKind (s : State) : Option Nat :=
  [1, 4, 8, 12, 20, 24].find? (fun k => s.maySend k && s.txq.entries.any (Entry.waits k))

/-! ## Offers on the state -/

/-- The queue with other entries. -/
def State.setEntries (s : State) (l : List Entry) : State := { s with txq := { s.txq with entries := l } }

/-- A reset begins: the line is released and an attempt stops driving (R172). The blocks take their reset values
when it ends. -/
def State.releaseAll (s : State) : State := { s with lif := { s.lif with line := .idle, frame := [] } }

/-- The SERVICE RESTART reset begins (R172, R175). -/
def State.serviceRestart (s : State) : State :=
  ({ s with hold := { s.hold with service := true } } : State).releaseAll

/-- A parking STATUS is lost, or completes when the station cannot park: the flag clears, the quiet count
restarts, a STATUS carrying the present state is due (R170). -/
def State.parkingFailed (s : State) : State :=
  { s with stc := { s.stc with parkingPending := false, quiet := 0 }, sched := { s.sched with due := true } }

/-- The reply to an accepted RESTART has left the queue, or never had a place in it: the station restarts
(R175). -/
def State.replyGone (e : Entry) (s : State) : State := if e.restart then s.serviceRestart else s

/-- An entry is removed by displacement or by its sixteenth error: a lost parking STATUS ends the parking
(R170), and a RESTART's reply restarts the station (R175). -/
def State.entryLost (e : Entry) (s : State) : State :=
  (if e.parkedStatus then s.parkingFailed else s).replyGone e

/-- The pairs of a completed FUNCTION entry, or of one dropped after its sixteenth failed attempt, take the own-origin
update (R8). -/
def State.ownOrigin (e : Entry) (s : State) : State := s.applyPairs s.stc.own e.pairs

/-- The kind of the entry that makes room in a full queue for a new one: none for a new READING, STATUS or reply
(R152). -/
def makesRoom (kind : Nat) (l : List Entry) : Option Nat := if kind = 1 ∨ kind = 4 then displacedKind l else none

/-! ## Placing offers -/

/-- A queue to which offers have been placed: its entries, the entries that were displaced, and those that were dropped,
for which no place was found (R151, R152). -/
structure Placed where
  entries : List Entry
  displaced : List Entry
  dropped : List Entry
  deriving DecidableEq, Repr

/-- An entry that needs a new place (R152): appended while fewer than 8 stand; else an ALERT or FUNCTION displaces the
newest WAITING entry of the kind given up, and everything else is dropped. -/
def Placed.add (e : Entry) (p : Placed) : Placed :=
  if p.entries.length < 8 then { p with entries := p.entries ++ [e] }
  else match makesRoom e.body.kind p.entries with
    | some k =>
      { p with entries := removeNewest (Entry.waits k) p.entries ++ [e]
               displaced := p.displaced ++ [(p.entries.reverse.find? (Entry.waits k)).getD e] }
    | none => { p with dropped := p.dropped ++ [e] }

/-- A FUNCTION pair is placed (R151). -/
def Placed.putPair (q : Byte × Byte) (p : Placed) : Placed :=
  match placePair q p.entries with
  | some l => { p with entries := l }
  | none => p.add (Entry.make (.function [q]))

/-- A READING set is placed: first in the places of the WAITING READING entries, then in new ones; a member without a
place is dropped (R151, R152). -/
def Placed.putReadings (bodies : List Body) (p : Placed) : Placed :=
  (placeReadings bodies p.entries).2.foldl (fun p b => p.add (Entry.make b))
    { p with entries := (placeReadings bodies p.entries).1 }

/-- A STATUS is placed: in place of the WAITING STATUS if there is one (R151). -/
def Placed.putStatus (x : StatusBody) (p : Placed) : Placed :=
  if p.entries.any (Entry.waits 12) then
    { p with entries := modifyFirst (Entry.waits 12) (fun _ => Entry.make (.status x)) p.entries }
  else p.add (Entry.make (.status x))

/-- An ALERT is placed, unless an identical one is WAITING (R151). -/
def Placed.putAlert (code : AlertCode) (subject : Byte) (p : Placed) : Placed :=
  if p.entries.any (fun e => !e.inFlight && e.body == .alert code subject) then p
  else p.add (Entry.make (.alert code subject))

/-- An offer is placed by its kind; every reply makes a new entry (R151). -/
def Placed.put (p : Placed) : Offer → Placed
  | .alert code subject => p.putAlert code subject
  | .pair q => p.putPair q
  | .readings sets => p.putReadings (sets.map Body.reading)
  | .status x => p.putStatus x
  | .reply querier item result data restart =>
    p.add { Entry.make (.reply querier item result data) with restart := restart }

/-- Offers placed one after another on a queue, each before the next (R151). -/
def placeAll (offers : List Offer) (before : List Entry) : Placed :=
  offers.foldl Placed.put { entries := before, displaced := [], dropped := [] }

/-- The order in which the offers of one instant are placed: by kind code, and FUNCTION pairs by function number
(R151). -/
def Offer.key : Offer → Nat
  | .alert _ _ => 256 * 1
  | .pair q => 256 * 4 + q.1.toNat
  | .readings _ => 256 * 8
  | .status _ => 256 * 12
  | .reply _ _ _ _ _ => 256 * 24

/-- Offers stand in the order in which those of one instant are placed (R151). -/
abbrev OffersInOrder (l : List Offer) : Prop := l.Pairwise (fun a b => a.key ≤ b.key)

/-- An offer comes in among the others of its instant, after those of its own key. -/
def insertOffer (o : Offer) : List Offer → List Offer
  | [] => [o]
  | x :: rest => if o.key < x.key then o :: x :: rest else x :: insertOffer o rest

/-- Offers come in among the others of their instant. -/
def insertOffers (new offers : List Offer) : List Offer := new.foldl (fun l o => insertOffer o l) offers

/-- The offer of a STATUS. -/
def Offer.isStatus : Offer → Bool
  | .status _ => true
  | _ => false

/-! ## Offers on the state -/

/-- The line takes an entry from the queue, or gives one back: the offers that the instant has made before it are
over, and later ones are a group of their own (R151; DESIGN CHOICE, log 27). A STATUS of the instant that has found no
place is over too. -/
def State.sealOffers (s : State) : State :=
  { s with offered := { before := [], offers := []
                        statusMade := s.offered.statusMade && s.txq.entries.any (Entry.waits 12) } }

/-- The offers of this instant, on the queue as the first of them found it; with none, or in a state no run reaches
whose queue is not what they make of it, or whose offers are out of the order of R151, no offers on the queue as it is
(log 27). -/
def State.group (s : State) : InstantOffers :=
  if (placeAll s.offered.offers s.offered.before).entries = s.txq.entries ∧ OffersInOrder s.offered.offers then s.offered
  else { s.offered with before := s.txq.entries, offers := [] }

/-- The queue with the offers of this instant. -/
def State.placedSoFar (s : State) : Placed := placeAll s.group.offers s.group.before

/-- The queue with the offers of this instant and new ones among them, each in its order (R151). -/
def State.placedWith (new : List Offer) (s : State) : Placed :=
  placeAll (insertOffers new s.group.offers) s.group.before

/-- An entry that new offers have displaced (R152). -/
def State.displace (s : State) (e : Entry) : State := s.countOverflow.entryLost e

/-- An entry that finds no place (R152). -/
def State.dropEntry (s : State) (e : Entry) : State := s.countOverflow.replyGone e

/-- New offers are placed, with those that this instant has made before them, one after another in ascending kind code
and FUNCTION pairs in ascending function number, on the queue as the first of them found it (R151, R152). What that
displaces or drops, and the offers before had not, is counted and reported. -/
def State.place (new : List Offer) (s : State) : State :=
  let t : State := { s.setEntries (s.placedWith new).entries with
    offered := { s.group with offers := insertOffers new s.group.offers } }
  ((s.placedWith new).dropped.diff s.placedSoFar.dropped).foldl State.dropEntry
    (((s.placedWith new).displaced.diff s.placedSoFar.displaced).foldl State.displace t)

/-- The FUNCTION pairs of this instant that find no place once new offers are placed, and had one before them (R152). -/
def State.pairsDropped (new : List Offer) (s : State) : List (Byte × Byte) :=
  ((s.placedWith new).dropped.diff s.placedSoFar.dropped).flatMap Entry.pairs

/-- Pairs offered together (R5, R151). The own-origin update takes those that are dropped; for a LISTEN-ONLY station it
takes every pair at its offering, once (R8, R9). -/
def State.offerPairs (pairs : List (Byte × Byte)) (s : State) : State :=
  if pairs = [] then s
  else (s.place (pairs.map Offer.pair)).applyPairs s.stc.own
    (if s.lif.listenOnly then pairs else s.pairsDropped (pairs.map Offer.pair))

/-- A STATUS is offered (R151). -/
def State.offerStatus (x : StatusBody) (s : State) : State := s.place [.status x]

/-- A READING set is made and offered; a member without a place is dropped and counted (R38, R151, R152). Without sender
inputs none is made. -/
def State.offerReading (s : State) : State :=
  if readingSets s.itm.inputs = [] then s else s.place [.readings (readingSets s.itm.inputs)]

/-- An ALERT is offered, before the FUNCTION pairs of its instant: one of these that loses its place by it takes the
own-origin update, if it has not taken it at its offering (R8, R9, R151, R152). -/
def State.offerAlert (code : AlertCode) (subject : Nat) (s : State) : State :=
  let new := [Offer.alert code (BitVec.ofNat 8 subject)]
  (s.place new).applyPairs s.stc.own (if s.lif.listenOnly then [] else s.pairsDropped new)

/-- A SERVICE REPLY is offered (R151, R173). -/
def State.offerReply (querier : Station) (item : Byte) (result : ReplyResult) (data : List Byte) (s : State) :
    State :=
  s.place [.reply querier item result data false]

/-- The reply to an accepted RESTART is offered, marked; a LISTEN-ONLY station restarts at once (R175). -/
def State.offerRestartReply (querier : Station) (item : Byte) (s : State) : State :=
  let s := s.place [.reply querier item .done [] true]
  if s.lif.listenOnly then s.serviceRestart else s

/-! ## What the end of an instant does -/

/-- The STATUS of this instant carries other values from here on: the one offered, or a new offer in place of the
WAITING STATUS (R151, R154). -/
def State.putStatus (x : StatusBody) (s : State) : State :=
  if s.group.offers.any Offer.isStatus then
    let offers := s.group.offers.map (fun o => if o.isStatus then .status x else o)
    { s.setEntries (placeAll offers s.group.before).entries with offered := { s.group with offers := offers } }
  else s.offerStatus x

/-- A STATUS is made from the values of this instant and offered (R154). An instant has one: where an earlier command
of it has made a STATUS, that STATUS takes the values. -/
def State.makeStatus (s : State) : State :=
  let t : State := { s with sched := { count := 0, spacing := 0, early := false, made := true, due := false } }
  let t := t.putStatus s.statusBody
  { t with offered := { t.offered with statusMade := true } }

/-- The STATUS that an earlier command of this instant has made, and that waits, carries the values that stand after
this command too (R154). -/
def State.renewStatus (s : State) : State :=
  if s.offered.statusMade && s.txq.entries.any (Entry.waits 12) then s.putStatus s.statusBody else s

/-- A channel some of whose changes at the boundary in progress are still to be taken: it composes with the last
of them (R52). -/
def Channel.changeDue (c : Channel) : Bool :=
  (match c.staged with | some x => x.left == 0 | none => false)
    || (match c.test with | some t => t.left == 0 | none => false)

/-- A pending alignment is to be applied at the boundary in progress, by a step of its own: b has come to a
multiple of 32 (R69). -/
def State.alignDue (s : State) : Bool :=
  s.leftOver .pendingAlignmentApplied && s.clock.b % 32 == 0 && s.flash.pendingAlign.isSome

/-- A trip or verdict of the boundary in progress is to be taken on the channel by a step of its own: an over-current
count of 2, or a window that has run its eight beats (R107, R124). -/
def State.verdictDue (s : State) (c : Channel) : Bool :=
  (s.leftOver .overcurrentTrip && c.driveable && decide (2 ≤ c.overcurrent))
    || (s.leftOver .stallVerdict && c.window.any (fun w => w.left == 0))

/-- A peer other than this station whose presence is `p` and whose age has reached `age` (R159). -/
def State.peerAgedTo (s : State) (p : Presence) (age : Nat) : Bool :=
  s.others.any (fun e => decide (e.2.presence = p) && decide (age ≤ e.2.age))

/-- An event that can change L_e, or wake a PARKED station, is left to a step of its own at the boundary in progress and
falls due: every channel's composition waits for it (R52, R137, R171, log 4). -/
def State.levelsDue (s : State) : Bool :=
  (s.leftOver .levelLowered && decide (Config.loweringLimit ≤ s.budget.lowering))
    || (s.leftOver .peerStale && s.peerAgedTo .live Config.peerStaleAge)
    || (decide (s.stc.state = .parked)
        && ((s.leftOver .viewEntryStale && s.view.any s.viewStaleDue)
          || (s.leftOver .peerAbsent && s.peerAgedTo .stale Config.peerAbsentAge)))

/-- A channel whose composition waits for a change of the boundary in progress that is left to a step of its own
(R52, R78, log 4): its own staged value or override, a trip or verdict, what changes L_e, or for a flashing channel the
alignment. -/
def State.withheld (s : State) (c : Channel) : Bool :=
  c.changeDue || (s.alignDue && c.switched) || s.verdictDue c || s.levelsDue

/-- A channel composes again at an instant, from what stands now (R52). -/
def State.recomposed (s : State) (c : Channel) : Channel :=
  if s.withheld c then c
  else c.formNow s.itm.vs s.budget.le (decide (s.stc.state = .parked)) s.clock.instant s.clock.atBoundary

/-- Every channel composes again (R52). -/
def State.recompose (s : State) : State := s.mapChans (fun _ c => s.recomposed c)

end Sys2Proof.Machine
end

