-- ==== Sys2Proof/Machine/Presence.lean ====
section
/-! DEFINITION. The Peer Table (Chapter 10) and what presence reaches: the reference station (R62, R63), the
effective level (R137), the view (R14), the expected set (R162); alignment by a STATUS (R66 to R69); and becoming
LISTEN-ONLY (R148). -/

namespace Sys2Proof.Machine

/-! ## Reference station and effective level -/

/-- A station of the reference set: this one, and every LIVE peer whose STATUS is held and younger than 48 beats (R62).
Of a peer that IGNITION has restarted, and whose parking STATUS is that young, R160 says that it is no candidate until
its next STATUS; nothing settles the two, and the open constant holds for either (DESIGN CHOICE, log 30). -/
def State.mayRefer (s : State) (p : Station) : Bool :=
  p == s.stc.own
    || (decide ((s.peer p).presence = .live) && (s.peer p).status.isSome
        && decide ((s.peer p).statusAge < Config.peerStaleAge) && (!(s.peer p).restarted || Config.restartedMayRefer))

/-- The lowest-numbered station of the reference set (R62). -/
def State.referenceOf (s : State) : Station := (allStations.find? s.mayRefer).getD s.stc.own

/-- The reference is formed again; a change of it discards the pending alignment (R62, R63). -/
def State.formReference (s : State) : State :=
  if s.referenceOf = s.flash.reference then s
  else { s with flash := { s.flash with reference := s.referenceOf, pendingAlign := none } }

/-- The level a peer brings to L_e: that of its last STATUS while it is LIVE (R137). -/
def Peer.level (p : Peer) : Nat :=
  if p.presence = .live then
    match p.status with
    | some x => x.lc
    | none => 0
  else 0

/-- The highest of own L_c and the levels of LIVE peers (R137). -/
def State.leOf (s : State) : Nat := s.others.foldl (fun acc e => max acc e.2.level) s.budget.lc

/-- L_e is formed again, in the states in which the Budget Unit works (R128, R137). -/
def State.formLe (s : State) : State :=
  if s.works then { s with budget := { s.budget with le := s.leOf } } else s

/-- A change of presence or a stored STATUS reaches the reference and L_e (R157, R161). The lamp warning is
computed where it is read. -/
def State.presenceChanged (s : State) : State := s.formReference.formLe

/-! ## Hearing a peer -/

/-- The gap between a new sequence number and the last (R158). -/
def sequenceGap (last new : Nat) : Nat := (((new : Int) - (last : Int) - 1) % 16).toNat

/-- The gap count after a bulletin with sequence `seq` (R158): judged while LIVE or PARKED. -/
def Peer.gapsAfter (seq : Nat) (p : Peer) : Nat :=
  match p.presence, p.lastSeq with
  | .live, some l => sat255 (p.gaps + sequenceGap l seq)
  | .parked, some l => sat255 (p.gaps + sequenceGap l seq)
  | _, _ => p.gaps

/-- The record stored of a STATUS (TABLE 54). -/
def StoredStatus.ofBody (x : StatusBody) : StoredStatus :=
  { state := x.state, lc := x.lc.toNat, d0 := x.d0.toNat, d1 := x.d1.toNat, d2 := x.d2.toNat, d3 := x.d3.toNat,
    supply := x.supply.toNat, faults := x.faults }

/-- A valid bulletin from the peer: sequence, STATUS, presence and age, in the order of R156. A STATUS ends the
note that IGNITION has restarted the entry (R160, log 30). -/
def Peer.hear (seq : Nat) (status : Option StatusBody) (p : Peer) : Peer :=
  { presence := match status with
      | some x => if x.state = .parked then .parked else .live
      | none => .live
    age := 0
    lastSeq := some seq
    gaps := p.gapsAfter seq
    status := match status with
      | some x => some (StoredStatus.ofBody x)
      | none => p.status
    statusAge := if status.isSome then 0 else p.statusAge
    restarted := p.restarted && status.isNone }

/-- A station number from which a valid bulletin is delivered joins the learned set (R162). -/
def State.learn (p : Station) (s : State) : State :=
  if s.expected.learning ∧ s.expected.members.contains p = false then
    { s with expected := { s.expected with members := s.expected.members ++ [p] } }
  else s

/-- A valid bulletin from another station reaches the Peer Table, the learning window, and what presence and
STATUS reach (R156, R157, R161, R162). -/
def State.hearPeer (p : Station) (seq : BitVec 4) (status : Option StatusBody) (s : State) : State :=
  ((s.modifyPeer p (Peer.hear seq.toNat status)).learn p).presenceChanged

/-! ## Ageing -/

/-- A boundary ages an entry and its STATUS (R157, R159). -/
def Peer.ageBy1 (p : Peer) : Peer := { p with age := sat255 (p.age + 1), statusAge := sat255 (p.statusAge + 1) }

/-- The peers other than this station that `p` picks, whose presence is `x` and whose age has reached `age` (R159). -/
def State.duePeers (s : State) (p : Station → Bool) (x : Presence) (age : Nat) : List Station :=
  allStations.filter (fun k => p k && k != s.stc.own && decide ((s.peer k).presence = x)
    && decide (age ≤ (s.peer k).age))

/-- The LIVE entries that `p` picks and whose age has reached 48 become STALE, together (R159, R161). -/
def State.stalePeers (p : Station → Bool) (s : State) : State :=
  let due := s.duePeers p .live Config.peerStaleAge
  if due = [] then s
  else
    ({ s with peers := tableMap (fun k x => if due.contains k then { x with presence := .stale } else x) s.peers }
      : State).presenceChanged

/-- The STALE entries that `p` picks and whose age has reached 250 become ABSENT, together: their STATUS is discarded and
the FRESH view entries they are the source of go STALE (R14, R157, R159, R161). -/
def State.absentPeers (p : Station → Bool) (s : State) : State :=
  let due := s.duePeers p .stale Config.peerAbsentAge
  if due = [] then s
  else
    ({ s with
       peers := tableMap (fun k x =>
         if due.contains k then { x with presence := .absent, status := none, statusAge := 255 } else x) s.peers
       view := s.view.map (fun e => if e.source.any due.contains then e.expire else e) } : State).presenceChanged

/-- A PARKED entry restarts when IGNITION becomes active: LIVE with age 0, STATUS and status age kept, and noted as
restarted until its next STATUS (R160, log 30). -/
def Peer.restart (p : Peer) : Peer :=
  if p.presence = .parked then { p with presence := .live, age := 0, restarted := true } else p

/-- Every PARKED entry restarts (R160). -/
def State.restartParked (s : State) : State :=
  ({ s with peers := tableMap (fun _ p => p.restart) s.peers } : State).presenceChanged

/-! ## The expected set -/

/-- The stations whose bits a mask sets (R162). -/
def maskMembers (m : Byte) : List Station := allStations.filter (fun p => m.getLsbD p.val)

/-- An expected peer is missing: neither LIVE nor PARKED, or LIVE and reporting CONFIG FAULT (R72). -/
def Peer.missing (p : Peer) : Bool :=
  match p.presence with
  | .live => match p.status with
    | some x => decide (x.state = .configFault)
    | none => false
  | .parked => false
  | _ => true

/-- At least one expected peer is missing (R72). -/
def State.anyMissing (s : State) : Bool :=
  s.expected.members.any (fun p => p != s.stc.own && (s.peer p).missing)

/-! ## Alignment -/

/-- The capture of a start bit (R65). -/
def State.captureNow (s : State) : State :=
  { s with lif := { s.lif with
      capture := { beat := s.clock.b, position := s.clock.position, boundaries := 0, elapsed := 0 } } }

/-- Alignment is immediate when no side is active, or no channel flashes (R66). -/
def State.alignsAtOnce (s : State) : Bool :=
  (!s.flash.left.act && !s.flash.right.act) || !s.chans.any (fun e => e.2.switched)

/-- A re-phasing sets the position; a beat carried from before its sample point to it or beyond takes no samples
(R28, R61). -/
def BeatClock.rephase (position : Nat) (c : BeatClock) : BeatClock :=
  { c with
    position := position
    sampled := c.sampled || (decide (c.position < Config.samplePoint) && decide (Config.samplePoint ≤ position)) }

/-- Immediate alignment (R67): b takes the beat field, the captured start bit becomes the start of the beat, and
a pending alignment is discarded. -/
def State.alignNow (bRef : Nat) (cap : Capture) (s : State) : State :=
  { s with
    clock := { s.clock.rephase cap.elapsed with b := bRef }
    flash := { s.flash with pendingAlign := none } }

/-- The position p that a start bit `elapsed` microseconds ago has on the present grid (R68, R69): that of its capture,
unless a boundary has applied an older record and re-phased the grid since (DEDUCED, log 26). -/
def startPosition (position elapsed : Nat) : Nat := (((position : Int) - (elapsed : Int)) % (Config.beat : Int)).toNat

/-- The boundaries of the present grid since a start bit `elapsed` microseconds ago (R69). -/
def startBoundaries (position elapsed : Nat) : Nat :=
  (elapsed + startPosition position elapsed - position) / Config.beat

/-- Deferred alignment (R68): the record is of the present grid, which is regular from here to its application, so that
the station ends on the grid of the start bit (R69). -/
def State.alignLater (bRef : Nat) (cap : Capture) (s : State) : State :=
  { s with flash := { s.flash with pendingAlign := (some
      { reference := s.flash.reference, bRef := bRef, beat := cap.beat
        position := startPosition s.clock.position cap.elapsed
        boundaries := startBoundaries s.clock.position cap.elapsed }) } }

/-- Alignment by a valid STATUS from a station (R66): only from the reference, and not from itself. -/
def State.align (sender : Station) (bRef : Nat) (s : State) : State :=
  if sender = s.flash.reference ∧ sender ≠ s.stc.own then
    if s.alignsAtOnce then s.alignNow bRef s.lif.capture else s.alignLater bRef s.lif.capture
  else s

/-- The whole 20 ms periods n between the captured start bit and the boundary (R69). -/
def PendingAlign.periods (a : PendingAlign) : Nat := if 0 < a.position then a.boundaries - 1 else a.boundaries

/-- The application of a pending alignment at a wrap (R69): b is projected, and the next boundary falls p after
this one, or 20 ms when p is 0. -/
def State.applyAlign (a : PendingAlign) (s : State) : State :=
  { s with
    clock := { s.clock.rephase (if 0 < a.position then Config.beat - a.position else 0) with
               b := (a.bRef + a.periods) % 256 }
    flash := { s.flash with pendingAlign := none } }

/-! ## LISTEN-ONLY -/

/-- A valid bulletin carries the station's own number (R148): the station becomes LISTEN-ONLY, and the pairs of
its FUNCTION entries take the own-origin update, oldest entry first (R9). -/
def State.becomeListenOnly (s : State) : State :=
  if s.lif.listenOnly then s
  else
    ({ s with lif := { s.lif with listenOnly := true } } : State).applyPairs s.stc.own
      (s.txq.entries.flatMap Entry.pairs)

end Sys2Proof.Machine
end

