-- ==== Sys2Proof/Machine/Protect.lean ====
section
/-! DEFINITION. The Protection Monitor (Chapter 6) and its part of the Fan Controller (Chapter 7): the judgement of
a beat, trips, retry, latch and release, OPEN flags, findings and ALERTs. -/

namespace Sys2Proof.Machine

/-! ## Current readings and the judgement of a beat -/

/-- I_on of the beat just ended: the floor of the mean, or 0 without a reading (R102). -/
def meanCurrent (sum number : Nat) : Nat := if number = 0 then 0 else sum / number

/-- A reading enters the sum and number of its beat (R102). -/
def Channel.addReading (x : Nat) (c : Channel) : Channel :=
  { c with sum := c.sum + currentReading x, number := c.number + 1 }

/-- The blanking limit (R105). -/
def Channel.blankingLimit (c : Channel) : Nat := min 255 (8 * c.prof.nominal)

/-- I_on formed, sum and number restarted (R102). -/
def Channel.closeBeat (c : Channel) : Channel :=
  { c with iOn := meanCurrent c.sum c.number, sum := 0, number := 0 }

/-- The open judgement of an open check, by I_on (R112): the count; the flag is set as an event of its own when
the count stands at 2. A flag cleared here is clear when a WARN telltale takes the warning condition at the same boundary,
in either order of the findings; no rule orders the check and that taking (R46, R116; DESIGN CHOICE, log 6). -/
def Channel.openCheck (c : Channel) : Channel :=
  if c.iOn < c.prof.nominal / 4 then { c with openCount := min 2 (c.openCount + 1) }
  else if c.prof.nominal / 2 ≤ c.iOn then { c with openCount := 0, openFlag := false }
  else { c with openCount := 0 }

/-- A NORMAL check by I_on (R107, R109, R112): over-current, NORMAL run, open. An over-current count of 2 is a trip
to be taken, and stops the check, which is then no open check. -/
def Channel.normalCheck (c : Channel) : Channel :=
  if 2 * c.prof.nominal < c.iOn ∧ 1 ≤ c.overcurrent then { c with overcurrent := 2, openCount := 0 }
  else
    let c := { c with overcurrent := if 2 * c.prof.nominal < c.iOn then 1 else 0
                      normalRun := min Config.normalRunLimit (c.normalRun + 1) }
    if c.dutyHeld then c.openCheck else { c with openCount := 0 }

/-- A boundary in BLANKING, by I_on (R105): above the limit, a trip is to be taken, noted by an over-current count
of 2; else the blanking count falls. -/
def Channel.blankingCheck (c : Channel) : Channel :=
  if c.blankingLimit < c.iOn then { c with overcurrent := 2, openCount := 0 }
  else { c with blanking := c.blanking - 1, overcurrent := 0, openCount := 0 }

/-- The judgement of the beat just ended by the state the channel is in at the boundary (R105, R107, R108,
R112). -/
def Channel.judge (c : Channel) : Channel :=
  let c := c.closeBeat
  match c.protection with
  | .normal => if c.normalSince then c.normalCheck else { c with overcurrent := 0, openCount := 0 }
  | .blanking => c.blankingCheck
  | .tripped => { c with wait := c.wait - 1, overcurrent := 0, openCount := 0 }
  | .latched => { c with overcurrent := 0, openCount := 0 }

/-! ## Trips -/

/-- The retry wait of a cause (R104). -/
def retryWait : TripCause → Nat
  | .stall => 64
  | .overcurrent => 16
  | .short => 16

/-- A trip, in the five steps of R104; an open stall window closes (R120). TRIPPED and LATCHED set it aside. What the
instant found before it is not gone back to (R104). -/
def Channel.trip (cause : TripCause) (c : Channel) : Channel :=
  if c.driveable then
    { c with
      applied := 0
      driven := 0
      cause := some cause
      trips := min 3 (c.trips + 1)
      protection := if 3 ≤ c.trips + 1 then .latched else .tripped
      wait := if 3 ≤ c.trips + 1 then 0 else retryWait cause
      blanking := 0
      overcurrent := 0
      openCount := 0
      normalRun := 0
      release := 0
      window := none
      dutyHeld := false
      normalSince := false
      shortDue := false
      base := none }
  else c

/-- The channel's first map function, or 0 (R114). -/
def State.firstMap (s : State) (n : ChannelNo) : Nat :=
  match s.maps.find? (fun m => m.channel == n.val) with
  | some m => m.function
  | none => 0

/-- A trip is taken on a channel; an entry to LATCHED offers an ALERT of code 4 (R104, R114). -/
def State.trip (n : ChannelNo) (cause : TripCause) (s : State) : State :=
  match s.chan n with
  | none => s
  | some c =>
    if c.driveable ∧ 3 ≤ c.trips + 1 then
      (s.modifyChan n (Channel.trip cause)).offerAlert .channelLatched (s.firstMap n)
    else s.modifyChan n (Channel.trip cause)

/-- An over-current trip is to be taken: the count stands at 2 (R105, R107). -/
def Channel.tripDue (c : Channel) : Bool := c.driveable && decide (2 ≤ c.overcurrent)

/-- The over-current trip of a boundary, if one is to be taken. -/
def State.overcurrentTrip (n : ChannelNo) (s : State) : State :=
  match s.chan n with
  | some c => if c.tripDue then s.trip n .overcurrent else s
  | none => s

/-! ## Stall windows -/

/-- A boundary lowers the beats remaining of an open window (R124). -/
def Channel.lowerWindow (c : Channel) : Channel :=
  { c with window := c.window.map (fun w => { w with left := w.left - 1 }) }

/-- The open window is discarded (R124). -/
def Channel.discardWindow (c : Channel) : Channel :=
  { c with window := none, base := c.base.map (fun b => { b with window := none }) }

/-! ## Blanking end, trip count, retry, latch -/

/-- At a NORMAL run of 250 the trip count and cause clear (R109). -/
def Channel.clearTrips (c : Channel) : Channel :=
  if c.normalRun = Config.normalRunLimit then { c with trips := 0, cause := none } else c

/-- BLANKING ends in what the instant found, when its count had reached 0 there (R105). -/
def DriveBase.endBlanking (b : DriveBase) : DriveBase :=
  if b.protection = .blanking ∧ b.blanking = 0 ∧ b.overcurrent = 0 then { b with protection := .normal } else b

/-- BLANKING ends when its count has reached 0 (R105). -/
def Channel.endBlanking (c : Channel) : Channel :=
  if c.protection = .blanking ∧ c.blanking = 0 ∧ c.overcurrent = 0 then
    { c with protection := .normal, base := c.base.map DriveBase.endBlanking }
  else c

/-- The channel at rest in NORMAL, noted as what the instant found: from here its composition at this instant decides the
duty it takes (R52, R56, R108, R110). -/
def Channel.atRest (now : Nat) (waitEnded : Bool) (c : Channel) : Channel :=
  ({ c with protection := .normal, applied := 0 } : Channel).based now true waitEnded

/-- A retry wait that has reached 0 ends: BLANKING and the duty from rest at a composed value above 0, else NORMAL
at duty 0 (R108, R120). A GAUGE at composed 0 whose needle is not yet at rest has a target duty above 0: it stays at duty
0 until the next boundary forms its duty (R56, R108; DESIGN CHOICE, log 22). -/
def Channel.endWait (now : Nat) (c : Channel) : Channel :=
  if c.protection = .tripped ∧ c.wait = 0 then (c.atRest now true).leaveWait else c

/-- A LATCHED channel is released (R110, R111, R120): NORMAL with counts and cause cleared, and its duty from rest,
which enters BLANKING if it is above 0. -/
def Channel.unlatch (now : Nat) (c : Channel) : Channel :=
  if c.protection = .latched then
    (({ c with trips := 0, cause := none, release := 0, normalSince := false }
      : Channel).atRest now false).setApplied c.fromRest
  else c

/-- A boundary counts toward the release of a LATCHED channel by its underlying demand (R110); so does the boundary at
which the channel became LATCHED, which the manual leaves open (DESIGN CHOICE, log 6). -/
def Channel.countRelease (underlying : Nat) (c : Channel) : Channel :=
  if c.protection = .latched then
    { c with release := if underlying = 0 then min 2 (c.release + 1) else 0 }
  else c

/-- A LATCHED channel whose release count has reached 2 is released (R110). -/
def Channel.releaseDue (now : Nat) (c : Channel) : Channel := if c.release = 2 then c.unlatch now else c

/-! ## Findings, OPEN flags and ALERTs -/

/-- The channel's side, if its OPEN checks report to the flash unit: FLASH and STOPFLASH, LEFT or RIGHT (R74,
R113). -/
def Channel.flashSide (c : Channel) : Option Side :=
  if c.prof.kind = .flash ∨ c.prof.kind = .stopflash then
    match c.prof.side with
    | .left => some .left
    | .right => some .right
    | .either => none
    | .warn => none
  else none

/-- One side's flash state changed. -/
def FlashUnit.modifySide (sd : Side) (f : SideFlash → SideFlash) (fl : FlashUnit) : FlashUnit :=
  match sd with
  | .left => { fl with left := f fl.left }
  | .right => { fl with right := f fl.right }
  | .either => fl
  | .warn => fl

/-- One side's flash state. -/
def FlashUnit.side (fl : FlashUnit) : Side → SideFlash
  | .right => fl.right
  | _ => fl.left

/-- The LAMP OUT code and subject of a side (TABLE 38). -/
def lampOutOf : Side → AlertCode × Nat
  | .right => (.lampOutRight, 2)
  | _ => (.lampOutLeft, 1)

/-- A finding on a side (R74, R77, R113, R114): side_failed while on_S; ALERT 1 or 2 with act_S and on_S while
alert_sent is clear. -/
def State.finding (sd : Side) (s : State) : State :=
  let x := s.flash.side sd
  let s' : State := { s with flash := s.flash.modifySide sd (fun y =>
    { y with failed := y.failed || y.on, alertSent := y.alertSent || (y.act && y.on) }) }
  if x.act && x.on && !x.alertSent then s'.offerAlert (lampOutOf sd).1 (lampOutOf sd).2 else s'

/-- The OPEN flag of a channel is newly set: ALERT 3 where TABLE 38 gives it. -/
def State.openAlert (n : ChannelNo) (c : Channel) (s : State) : State :=
  match c.flashSide with
  | some sd => if s.flash.actOf sd then s else s.offerAlert .lampOutOther 0
  | none => s.offerAlert .lampOutOther (s.firstMap n)

/-- A finding is reported if the channel has a flash side. -/
def State.findingOf (c : Channel) (s : State) : State :=
  match c.flashSide with
  | some sd => s.finding sd
  | none => s

/-- The OPEN flag is to be set: the open count stands at 2, or stood there at a check that left the setting to a step of
its own, and the flag is clear (R112, log 4). -/
def Channel.openDue (c : Channel) : Bool := (decide (c.openCount = 2) || c.openLeft) && !c.openFlag

/-- The setting of the OPEN flag is left to a step of its own, whatever becomes of the open count meanwhile (log 4). -/
def Channel.leaveOpen (c : Channel) : Channel := { c with openLeft := true }

/-- The OPEN flag of a channel is set, with its ALERT and its finding (R112, R113, R114). -/
def State.openFlagSet (n : ChannelNo) (s : State) : State :=
  match s.chan n with
  | none => s
  | some c =>
    if c.openDue then
      ((s.modifyChan n (fun c => { c with openFlag := true, openLeft := false })).openAlert n c).findingOf c
    else s

/-- A later open check of a lamp that is still out is a finding (R113). -/
def State.laterFinding (n : ChannelNo) (s : State) : State :=
  match s.chan n with
  | none => s
  | some c => if c.openFlag && decide (1 ≤ c.openCount) then s.findingOf c else s

/-- The findings of a boundary, channel by channel; `leaveOpen` leaves the setting of OPEN flags to steps of their
own. -/
def State.findings (leaveOpen : Bool) (s : State) : State :=
  allChannels.foldl (fun s n =>
    match s.chan n with
    | none => s
    | some c => if c.openDue then (if leaveOpen then s.modifyChan n Channel.leaveOpen else s.openFlagSet n)
      else s.laterFinding n) s

/-! ## Stall verdicts -/

/-- What a check of this boundary still leaves to do on a FAN channel, the only one with a window (R122), before a verdict
trips it: its OPEN flag is set and its trip count cleared where they are due, since both are made at the check itself
(R109, R112; DEDUCED, log 6). -/
def State.settleCheck (n : ChannelNo) (s : State) : State :=
  State.modifyChan (match s.chan n with
    | some c => if c.prof.kind = .fan then s.openFlagSet n else s
    | none => s) n Channel.clearTrips

/-- The verdict of a window that has run its eight beats: a STALL trip below the minimum ripple; the window is discarded
either way (R124). `checked` says that the channel's check of this boundary has been made before it (R104). -/
def State.stallVerdict (checked : Bool) (n : ChannelNo) (s : State) : State :=
  match s.chan n with
  | none => s
  | some c =>
    match c.window with
    | none => s
    | some w =>
      if w.left = 0 then
        (if w.ripple < c.prof.minRipple then
          ((if checked then s.settleCheck n else s).modifyChan n Channel.discardWindow).trip n .stall
        else s.modifyChan n Channel.discardWindow)
      else s

end Sys2Proof.Machine
end

