-- ==== Sys2Proof/Machine/Budget.lean ====
section
/-! DEFINITION. The Budget Unit (Chapter 8): own class demands, car totals, allowance, needed level, the computed
level with its lowering count, and the level while the station is in SAG. -/

namespace Sys2Proof.Machine

/-! ## Demands and totals -/

/-- The sum of the nominal currents of a class's channels whose underlying demand is above 0 (R129). -/
def State.classSum (s : State) (k : Nat) : Nat :=
  ((s.chans.filter (fun e => decide (e.2.prof.shedClass = k)
      && decide (0 < e.2.underlying s.flash (s.takenOf .stop)))).map (fun e => e.2.prof.nominal)).sum

/-- Sense units to budget units, rounded half up, at most 255 (R129). -/
def budgetUnits (sum : Nat) : Nat := sat255 ((sum + 1) / 2)

/-- The own demand D_c formed now (R129). -/
def State.demandNow (s : State) (k : Nat) : Nat := budgetUnits (s.classSum k)

/-- The own demands are formed again (R129). -/
def State.formDemands (s : State) : State :=
  { s with budget := { s.budget with
      d0 := s.demandNow 0, d1 := s.demandNow 1, d2 := s.demandNow 2, d3 := s.demandNow 3 } }

/-- The demands a peer brings to the totals: those of its last STATUS while it is LIVE or PARKED (R130). -/
def Peer.counted (p : Peer) : Option StoredStatus :=
  match p.presence with
  | .live => p.status
  | .parked => p.status
  | _ => none

/-- The demand of one class that a stored STATUS reports. -/
def StoredStatus.demand (x : StoredStatus) : Nat → Nat
  | 0 => x.d0
  | 1 => x.d1
  | 2 => x.d2
  | _ => x.d3

/-- The demand of one class over the counted peers (R130). -/
def State.peersDemand (s : State) (k : Nat) : Nat :=
  (s.others.map (fun e => match e.2.counted with
    | some x => x.demand k
    | none => 0)).sum

/-- The own demand of a class. -/
def Budget.demand (b : Budget) : Nat → Nat
  | 0 => b.d0
  | 1 => b.d1
  | 2 => b.d2
  | _ => b.d3

/-- The car total T_k (R130). -/
def State.total (s : State) : Nat → Nat
  | 0 => s.budget.demand 0 + s.peersDemand 0
  | k + 1 => s.total k + s.budget.demand (k + 1) + s.peersDemand (k + 1)

/-! ## Allowance, needed level, computed level -/

/-- The allowance A (R131). -/
def allowance (com : CommonSection) (charging : Bool) : Nat := if charging then com.aCharge else com.aBattery

/-- The needed level for an allowance (R132). -/
def State.needed (s : State) (a : Nat) : Nat :=
  if s.total 3 ≤ a then 0 else if s.total 2 ≤ a then 1 else if s.total 1 ≤ a then 2 else 3

/-- The next level down from `lc` would fit with margin: T_(3 − (L_c − 1)) ≤ A − M, an allowance below M being
fitted by no total (R134). -/
def State.lowerFits (s : State) (a margin lc : Nat) : Bool := decide (s.total (3 - (lc - 1)) + margin ≤ a)

/-- L_c and the lowering count by the needed level (R133, R134), or held in SAG (R135). A lowering count of 64 is a
lowering to be taken. -/
def Budget.judgeLevel (sag : Bool) (needed : Nat) (fits : Bool) (b : Budget) : Budget :=
  if sag then { b with lc := 3, lowering := 0 }
  else if b.lc < needed then { b with lc := needed, lowering := 0 }
  else if needed < b.lc then
    { b with lowering := if fits then min Config.loweringLimit (b.lowering + 1) else 0 }
  else { b with lowering := 0 }

/-- The level falls by 1 when the lowering count has reached 64 (R134). -/
def Budget.lower (b : Budget) : Budget :=
  if Config.loweringLimit ≤ b.lowering then { b with lc := b.lc - 1, lowering := 0 } else b

/-- Charging flag, needed level, over-budget flag and L_c from demands already formed (R131 to R135). -/
def State.judgeBudget (sag : Bool) (com : CommonSection) (s : State) : State :=
  let charging := decide (com.chargeThreshold ≤ s.itm.vs)
  let a := allowance com charging
  { s with budget := ({ s.budget with charging := charging, overBudget := decide (a < s.total 0) }
      : Budget).judgeLevel sag (s.needed a) (s.lowerFits a com.margin s.budget.lc) }

/-- The boundary at the Budget Unit, but for L_e (R136): in RUN, SAG and PARKED. `leaveLower` leaves a lowering to
a step of its own. -/
def State.budgetWork (sag leaveLower : Bool) (s : State) : State :=
  match s.common with
  | none => s
  | some com =>
    let s := s.formDemands.judgeBudget sag com
    if leaveLower then s else { s with budget := s.budget.lower }

/-- The station is in SAG: L_c is 3, the lowering count 0 (R135). -/
def Budget.inSag (b : Budget) : Budget := { b with lc := 3, lowering := 0 }

end Sys2Proof.Machine
end

