-- ==== Sys2Proof/Machine/Beat.lean ====
section
/-! DEFINITION. The work of a beat boundary, block by block: the beat timer (R60, R69), taking (R19, R20, R44 to
R47), the quiet count (R169), ageing (R13, R157, R159), the flash state (R71 to R73), sources of gauges (R92, R93),
sag (R168), parking (R169, R170), the scheduled offers (R6, R39, R154), and the end of an instant (R52, R154). The
meanings in Boundary.lean put it together. -/

namespace Sys2Proof.Machine

/-! ## The beat timer -/

/-- A channel as a new beat finds it: what commands of this very instant have composed before the boundary is composed
again with it, in one step (R52, log 25); a short left by the beat's last period, and an OPEN flag that the boundary
before left, are over (log 4). -/
def Channel.beginBeat (now : Nat) (c : Channel) : Channel :=
  { c.rewound now with base := none, needle := none, shortDue := false, openLeft := false }

/-- The boundary falls: the time to it passes, a new beat begins, and every running count of boundaries since a
start bit rises (R60, R69). `left` names what is left to steps of their own. -/
def State.beginBeat (left : List BoundaryEvent) (s : State) : State :=
  let s := s.advance (Config.beat - s.clock.position)
  { s with
    clock := { s.clock with b := (s.clock.b + 1) % 256, position := 0, atBoundary := true, left := left,
                            sampled := false, firstBeat := false, sincePeriod := Config.pulsePeriod }
    lif := { s.lif with capture := { s.lif.capture with boundaries := s.lif.capture.boundaries + 1 } }
    flash := { s.flash with
      pendingAlign := s.flash.pendingAlign.map (fun a => { a with boundaries := a.boundaries + 1 }) }
    chans := tableMap (fun _ c => c.beginBeat s.clock.instant) s.chans }

/-- At a wrap a pending alignment is applied, unless it is left to a step of its own (R69, R78). -/
def State.wrap (s : State) : State :=
  match s.flash.pendingAlign with
  | some a => if s.clock.b % 32 = 0 ∧ s.alignDue = false then s.applyAlign a else s
  | none => s

/-! ## Taking -/

/-- An intrinsic function at a boundary: the count falls, and at 0 the staged value is taken (R19, R20). -/
def IntrinsicValue.atBoundary (x : IntrinsicValue) : IntrinsicValue :=
  match x.staged with
  | some v => if v.left ≤ 1 then { staged := none, taken := v.value }
              else { x with staged := some { v with left := v.left - 1 } }
  | none => x

/-- A channel's staged value is taken (R19). -/
def Channel.take (c : Channel) : Channel :=
  match c.staged with
  | some v => { c with taken := v.value, staged := none }
  | none => c

/-- A channel's staged count falls (R19). -/
def Channel.lowerStaged (c : Channel) : Channel :=
  { c with staged := c.staged.map (fun v => { v with left := v.left - 1 }) }

/-- A channel whose staged count has reached 0 takes the value (R19). -/
def Channel.takeDue (c : Channel) : Channel :=
  match c.staged with
  | some v => if v.left = 0 then c.take else c
  | none => c

/-- A test override's count falls (R50). -/
def Channel.lowerTest (c : Channel) : Channel :=
  { c with test := c.test.map (fun t => { t with left := t.left - 1 }) }

/-- A test override whose count has fallen to 0 becomes absent (R50). -/
def Channel.expireTest (c : Channel) : Channel := { c with test := c.test.filter (fun t => t.left != 0) }

/-- IGNITION becomes active: the alert-seen flag clears and every override is cancelled (R20, R53, R115). The
restart of PARKED peers (R160) stands beside it in the boundary's order. -/
def State.ignitionOn (s : State) : State :=
  { s.mapChans (fun _ c => { c with test := none }) with alertSeen := false }

/-- The flash unit's intrinsic functions at a boundary (R20). -/
def State.takeIntrinsics (s : State) : State :=
  { s with intrinsics := tableMap (fun _ x => x.atBoundary) s.intrinsics }

/-- IGNITION became active since `before` (R20). -/
def State.ignitionRose (before s : State) : Bool :=
  decide (before.takenOf .ignition = 0) && decide (0 < s.takenOf .ignition)

/-- Staged values and overrides of the channels at a boundary (R19, R50). -/
def State.takeChannels (s : State) : State :=
  s.mapChans (fun _ c =>
    let c := c.lowerStaged.lowerTest
    let c := if s.clock.left.contains .stagedValueTaken then c else c.takeDue
    if s.clock.left.contains .testOverrideExpiry then c else c.expireTest)

/-! ## Protection at a boundary -/

/-- An over-current trip on each channel that is to have one (R105, R107). -/
def State.overcurrentTrips (s : State) : State :=
  if s.clock.left.contains .overcurrentTrip then s
  else allChannels.foldl (fun s n => s.overcurrentTrip n) s

/-- The verdicts of the windows that have run their eight beats (R124), before or after the checks (R104). -/
def State.stallVerdicts (checked : Bool) (s : State) : State :=
  if s.clock.left.contains .stallVerdict then s
  else allChannels.foldl (fun s n => s.stallVerdict checked n) s

/-- Every channel is judged on the beat just ended, with its over-current trip and its cleared trip count; a channel
that a verdict has tripped since `before` makes no check at this boundary (R104, R105, R107, R109). -/
def State.judgeBeat (before s : State) : State :=
  let t := (s.mapChans (fun n c =>
    if (before.chan n).any Channel.driveable && !c.driveable then c.closeBeat else c.judge)).overcurrentTrips
  if t.clock.left.contains .tripCountClear then t else t.mapChans (fun _ c => c.clearTrips)

/-- The open windows lose a beat, and those that have run out have their verdicts (R124). -/
def State.judgeWindows (checked : Bool) (s : State) : State :=
  (s.mapChans (fun _ c => c.lowerWindow)).stallVerdicts checked

/-- The checks of the beat just ended and the verdicts of the windows, in the order that `stallFirst` gives (R104), and
the ends of blanking (R105). -/
def State.protect (stallFirst : Bool) (s : State) : State :=
  let t := if stallFirst then State.judgeBeat s (s.judgeWindows false) else (State.judgeBeat s s).judgeWindows true
  if t.clock.left.contains .blankingEnd then t else t.mapChans (fun _ c => c.endBlanking)

/-! ## Ageing -/

/-- The quiet count at a boundary (R169): it advances in RUN up to the park delay, and is 0 while any override is
present. -/
def State.countQuiet (found : StationState) (s : State) : State :=
  match s.common with
  | none => s
  | some com =>
    if found = .run then
      { s with stc := { s.stc with
          quiet := if s.chans.any (fun e => e.2.expireTest.test.isSome) then 0
                   else min com.parkDelay (s.stc.quiet + 1) } }
    else s

/-- A view entry ages (R13). -/
def ViewEntry.older (e : ViewEntry) : ViewEntry :=
  if e.freshness = .never then e else { e with age := sat255 (e.age + 1) }

/-- The Function View at a boundary: the ages, and what goes STALE by them (R13). -/
def State.ageView (s : State) : State :=
  let s : State := { s with view := s.view.map ViewEntry.older }
  if s.clock.left.contains .viewEntryStale then s else s.expireEntries (fun _ => true)

/-- Every peer entry and stored STATUS ages (R157, R159). -/
def State.olderPeers (s : State) : State := { s with peers := tableMap (fun _ p => p.ageBy1) s.peers }

/-- The presences that ages change (R159). -/
def State.agePresences (s : State) : State :=
  let s := if s.clock.left.contains .peerStale then s else s.stalePeers (fun _ => true)
  if s.clock.left.contains .peerAbsent then s else s.absentPeers (fun _ => true)

/-- A status age has come to 48 (R62). -/
def State.expireStatuses (s : State) : State :=
  if s.clock.left.contains .statusAgeExpiry then s
  else if s.others.any (fun e => decide (e.2.statusAge = Config.peerStaleAge)) then s.formReference
  else s

/-- The Peer Table at a boundary (R157, R159, R160): `rose` says that IGNITION became active here, `restartFirst`
that PARKED entries restart before they age. Either way they are LIVE when the gauges class their sources at this
boundary, where R94 allows the other order too, and LIVE when a WARN telltale takes the warning condition there, so that
their last STATUS counts in it: no rule orders the restart and that taking (R46, R116, R160). Both are DESIGN CHOICES
(log 6). -/
def State.agePeers (rose restartFirst : Bool) (s : State) : State :=
  let s := if rose && restartFirst then s.restartParked else s
  let s := s.olderPeers
  let s := if rose && !restartFirst then s.restartParked else s
  s.agePresences.expireStatuses

/-! ## Flash state -/

/-- The learning window closes (R162). -/
def State.closeLearning (s : State) : State := { s with expected := { s.expected with learning := false } }

/-- The settle count at a boundary (R72), and the learning window with it (R162). -/
def State.countSettle (s : State) : State :=
  if s.works then
    let s : State :=
      { s with flash := { s.flash with settle := min Config.settleLimit (s.flash.settle + 1) } }
    if s.flash.settle = Config.settleLimit ∧ s.clock.left.contains .settleCountComplete = false then
      s.closeLearning
    else s
  else s

/-- on_S at a beat count (R73). -/
def SideFlash.phase (b : Nat) (x : SideFlash) : SideFlash :=
  { x with on := x.act && decide (b % x.period < x.period / 2) }

/-- The flash state of a side (R71, R73, R76). `failedBefore` is side_failed before this boundary's findings: one
found here reaches the rate at the next boundary (R74). -/
def SideFlash.form (act fallback failedBefore : Bool) (b : Nat) (x : SideFlash) : SideFlash :=
  let fast := act && (failedBefore || fallback)
  ({ x with
     act := act
     fast := fast
     period := if fast then 16 else 32
     failed := x.failed && act
     alertSent := x.alertSent && act } : SideFlash).phase b

/-- act_S from the taken values of INDICATE_S and HAZARD (R71). -/
def State.actNow (s : State) (indicate : Intrinsic) : Bool :=
  decide (0 < s.takenOf indicate) || decide (0 < s.takenOf .hazard)

/-- The flash state formed at a boundary (R78, steps 3 to 5); `before` is the state before the boundary's
findings. -/
def State.formFlash (s before : State) : State :=
  let fallback := decide (s.flash.settle = Config.settleLimit) && s.anyMissing
  { s with flash := { s.flash with
      fallback := fallback
      left := s.flash.left.form (s.actNow .indicateLeft) fallback before.flash.left.failed s.clock.b
      right := s.flash.right.form (s.actNow .indicateRight) fallback before.flash.right.failed s.clock.b } }

/-- The taken value a channel of a kind without staging has from this boundary on (R45 to R47); LAMP and FAN keep
theirs. -/
def State.handedDemand (s : State) (c : Channel) : Nat :=
  match c.prof.kind with
  | .lamp => c.taken
  | .fan => c.taken
  | .gauge => level (!c.prof.ignitionFed || decide (0 < s.takenOf .ignition))
  | .flash => flashDemand s.flash (s.takenOf .stop) c.prof
  | .stopflash => flashDemand s.flash (s.takenOf .stop) c.prof
  | .telltale =>
    if c.prof.side = .warn then level s.lampWarning else flashDemand s.flash (s.takenOf .stop) c.prof

/-- The channels take what is handed to them (R45 to R47). -/
def State.handDemands (s : State) : State := s.mapChans (fun _ c => { c with taken := s.handedDemand c })

/-- The channels that follow the flash phase take it anew (R45, R78). -/
def State.handPhase (s : State) : State :=
  s.mapChans (fun _ c =>
    if c.switched && !(decide (c.prof.kind = .telltale) && decide (c.prof.side = .warn)) then
      { c with taken := flashDemand s.flash (s.takenOf .stop) c.prof }
    else c)

/-- LATCHED channels count toward their release (R110). -/
def State.countReleases (s : State) : State :=
  s.mapChans (fun _ c => c.countRelease (c.underlying s.flash (s.takenOf .stop)))

/-! ## SAG -/

/-- Entry to SAG (R135, R168): L_c 3, quiet count 0, a pending parking abandoned. -/
def State.enterSag (s : State) : State :=
  let s := s.abandonParking
  ({ s with stc := { s.stc with state := .sag, sagExit := 0, quiet := 0 }, budget := s.budget.inSag }
    : State).formLe

/-- The return from SAG to RUN (R168). -/
def State.leaveSag (s : State) : State := { s with stc := { s.stc with state := .run, sagExit := 0 } }

/-- Station Control judges the supply at a boundary (R168); a station that wakes at it makes its first judgement at
the next (R171). -/
def State.judgeSag (found : StationState) (s : State) : State :=
  match s.common with
  | none => s
  | some com =>
    if found = .run then (if s.itm.vs < com.sagThreshold then s.enterSag else s)
    else if found = .sag then
      let n := if com.sagThreshold + 300 ≤ s.itm.vs then min Config.sagExitLimit (s.stc.sagExit + 1) else 0
      let s : State := { s with stc := { s.stc with sagExit := n } }
      if n = Config.sagExitLimit ∧ s.clock.left.contains .sagExit = false then s.leaveSag else s
    else s

/-- The Budget Unit and Station Control's sag judgement, entry and return alike, in the order the boundary takes
them (R136); then L_e (R137). -/
def State.sagAndBudget (found : StationState) (sagFirst : Bool) (s : State) : State :=
  let lower := s.clock.left.contains .levelLowered
  if s.works then
    (if sagFirst then
      let s := s.judgeSag found
      (s.budgetWork (decide (s.stc.state = .sag)) lower).formLe
    else ((s.budgetWork (decide (found = .sag)) lower).judgeSag found).formLe)
  else s

/-! ## Drive and gauges -/

/-- The cache entry of a remote source (R89). -/
def State.cacheEntry (s : State) (station input : Nat) : Option CacheEntry :=
  s.cache.find? (fun e => e.station == station && e.input == input)

/-- The presence of a station under a number of the profile. -/
def State.presenceOf (s : State) (station : Nat) : Presence :=
  ((s.peers.find? (fun e => e.1.val == station)).map (fun e => e.2.presence)).getD .unknown

/-- A remote source's class (TABLE 30, tests 3 to 8). -/
def remoteClass (presence : Presence) (e : CacheEntry) : SourceClass :=
  if presence = .unknown ∨ presence = .absent then .lost
  else if e.valid = false then .lost
  else if presence = .parked then .held
  else if Config.peerAbsentAge ≤ e.age then .lost
  else if presence = .stale ∨ Config.peerStaleAge ≤ e.age then .held
  else .fresh

/-- The class and reading of a gauge's source (R92, R93). -/
def State.sourceOf (s : State) (g : GaugePart) : SourceClass × Nat :=
  if g.station = s.stc.own.val then
    (if (inputNumbered s.itm.inputs g.input).valid then .fresh else .lost,
      (inputNumbered s.itm.inputs g.input).reading)
  else match s.cacheEntry g.station g.input with
    | some e => (remoteClass (s.presenceOf g.station) e, e.value)
    | none => (.lost, 0)

/-- The cache ages (R91). -/
def State.ageCache (s : State) : State :=
  if s.works then { s with cache := s.cache.map (fun e => { e with age := sat255 (e.age + 1) }) } else s

/-- One channel's composition, drive and applied duty at a boundary, the end of its wait or latch, and its stall
window (R52, R83, R98, R108, R110, R119, R122). -/
def State.formChannel (s : State) (gaugeSag : Bool) (c : Channel) : Channel :=
  let c := c.formBoundary s.itm.vs s.budget.le (decide (s.stc.state = .parked)) gaugeSag
    s.clock.instant (s.sourceOf c.prof.gauge).1 (s.sourceOf c.prof.gauge).2
  let c := if s.clock.left.contains .retryWaitEnd then c else c.endWait s.clock.instant
  let c := if s.clock.left.contains .latchRelease then c else c.releaseDue s.clock.instant
  c.openWindow.markBeat

/-- Every channel but the withheld ones; where all of them wait for a change of L_e or for a wake, they are formed when
that is taken (log 4). -/
def State.formChannels (gaugeSag : Bool) (s : State) : State :=
  { s with
    clock := { s.clock with formDue := s.levelsDue }
    chans := tableMap (fun _ c => if s.withheld c then c else s.formChannel gaugeSag c) s.chans }

/-- The channels that waited for a change of L_e or for a wake are formed once no such change is left, and no reset
holds the part (R52, log 4). A gauge among them is held or released by the state that stands here, after the sag
judgement, whatever `gaugeSagFirst` says; R99 allows either order (DESIGN CHOICE, log 5). -/
def State.formAfterLevels (s before : State) : State :=
  if s.timerRuns && s.clock.formDue && before.levelsDue && !s.levelsDue then
    s.formChannels (decide (s.stc.state = .sag))
  else s

/-! ## Parking -/

/-- The park conditions, in RUN with no parking pending (R169). -/
def State.parkConditions (s : State) : Bool :=
  match s.common with
  | none => false
  | some com =>
    decide (s.stc.state = .run) && !s.stc.parkingPending && decide (com.parkDelay ≤ s.stc.quiet)
      && decide (s.takenOf .ignition = 0) && s.chans.all (fun e => e.2.test.isNone)
      && s.txq.entries.isEmpty && s.chans.all (fun e => e.2.prof.parkPermitted || decide (e.2.applied = 0))

/-- Parking starts: the flag is set, and a STATUS is due (R170). -/
def State.startParking (s : State) : State :=
  { s with stc := { s.stc with parkingPending := true }, sched := { s.sched with due := true } }

/-- The park conditions judged at a boundary (R169); the station was in RUN as the boundary fell. They read what the rest
of the boundary leaves: the quiet count that it has advanced, the IGNITION value it has taken, the applied duties of its
own drive, and the queue with the ALERTs that its trips and findings have offered, but not yet with its refresh, READING
and STATUS. R169 gives no order (DESIGN CHOICE, log 6). -/
def State.judgeParking (found : StationState) (s : State) : State :=
  if found = .run ∧ s.parkConditions = true ∧ s.clock.left.contains .parkingStart = false then s.startParking
  else s

/-! ## Scheduled offers -/

/-- Every origin entry with a present value offers its pair, in ascending function number (R6). -/
def State.refreshNow (s : State) : State :=
  let offered := s.origins.entries.filter (fun o => o.present.isSome)
  ({ s with origins := { entries := s.origins.entries.map (fun o =>
                           if o.present.isSome then o.markSent s.itm.inputs else o)
                         refreshCount := 0 } } : State).offerPairs (sortPairs (offered.map Origin.pair))

/-- The refresh count at a boundary in RUN or SAG (R6). -/
def State.countRefresh (s : State) : State :=
  let n := min 32 (s.origins.refreshCount + 1)
  let s : State := { s with origins := { s.origins with refreshCount := n } }
  if n = 32 ∧ s.clock.left.contains .refresh = false then s.refreshNow else s

/-- A scheduled READING is made (R39). -/
def State.readingNow (s : State) : State :=
  ({ s with itm := { s.itm with readingCount := 0 } } : State).offerReading

/-- The station has sender inputs (R39). -/
def State.hasSenders (s : State) : Bool := s.itm.inputs.any (fun e => e.2.isSender)

/-- The reading count at a boundary in RUN or SAG (R39). -/
def State.countReading (s : State) : State :=
  if s.hasSenders then
    let n := min 16 (s.itm.readingCount + 1)
    let s : State := { s with itm := { s.itm with readingCount := n } }
    if n = 16 ∧ s.clock.left.contains .scheduledReading = false then s.readingNow else s
  else s

/-- A scheduled STATUS falls due (R154). -/
def State.statusFallsDue (s : State) : State := { s with sched := { s.sched with count := 0, due := true } }

/-- The STATUS schedule at a boundary in RUN, SAG or CONFIG FAULT (R154). -/
def State.countStatus (s : State) : State :=
  let n := min 16 (s.sched.count + 1)
  let s : State := { s with sched := { s.sched with count := n, spacing := min 2 (s.sched.spacing + 1) } }
  if n = 16 ∧ s.clock.left.contains .scheduledStatus = false then s.statusFallsDue else s

/-- The counts of the scheduled offers, by the state in which the boundary found the station. What the refresh applies
to the own view comes after the boundary's ageing of it, one of the orders that R13 allows (DESIGN CHOICE, log 6). -/
def State.countOffers (found : StationState) (s : State) : State :=
  let s := if found = .run ∨ found = .sag then s.countRefresh.countReading else s
  if found = .parked then s else s.countStatus

/-! ## The end of an instant -/

/-- Channels compose again when the effective level changed or the station entered or left PARKED since
`before` (R51, R52, R171). -/
def State.recomposeSince (s before : State) : State :=
  if s.budget.le = before.budget.le ∧ (s.stc.state = .parked ↔ before.stc.state = .parked) then s
  else s.recompose

/-- The early request is set by a change of the early figures since `before`; not in PARKED, and START has no
schedule. A STATUS that this instant has made, and that has not gone IN FLIGHT, takes the change itself (R154, log
14). -/
def State.requestSince (s before : State) : State :=
  if s.stc.state = .parked ∨ s.stc.state = .start ∨ s.offered.statusMade = true
      ∨ s.earlyFigures = before.earlyFigures then s
  else { s with sched := { s.sched with early := true } }

/-- A STATUS is to be made at this instant: it is due, or an early request stands, the spacing allows it, and it
is not left to a step of its own (R154). -/
def State.statusNow (s : State) : Bool :=
  s.sched.due
    || (s.sched.early && decide (s.stc.state ≠ .parked) && (decide (2 ≤ s.sched.spacing) || !s.sched.made)
        && !s.clock.left.contains .earlyStatus)

/-- The end of a command (R52, R154): channels whose shedding or parking changed compose again, an early change is
noted, and the STATUS that is due is made last, from the values that stand after every change. So is a STATUS that an
earlier command of the same instant has made: it carries the values after every command of its instant, until it goes
IN FLIGHT (log 14). -/
def State.finish (s before : State) : State :=
  let s := ((s.formAfterLevels before).recomposeSince before).requestSince before
  if s.statusNow then s.makeStatus else s.renewStatus

end Sys2Proof.Machine
end

