-- ==== Sys2Proof/Machine/Boundary.lean ====
section
/-! DEFINITION. The meanings of BEAT_BOUNDARY and of the events of a boundary as steps of their own. A step of its
own acts only on an event that the boundary left to it and that falls due; else it changes nothing (logs 3, 4). -/

namespace Sys2Proof.Machine

/-! ## The whole boundary -/

/-- The beat timer, the staged values and overrides, and what IGNITION's becoming active does at once (R19, R20,
R50, R60, R69): the alert-seen flag is clear before a WARN telltale takes the warning condition of this boundary, an
order the manual leaves open (R46; DESIGN CHOICE, log 6). A staged value that is due is taken here, before entries go
STALE at the same boundary and their demands are staged; no rule orders the two (R13, R19; DESIGN CHOICE, log 6). -/
def State.boundaryTaking (order : BoundaryOrder) (s : State) : State :=
  let t := (s.beginBeat order.leave).wrap.takeIntrinsics
  if s.ignitionRose t then t.takeChannels.ignitionOn else t.takeChannels

/-- The quiet count, the ages, the settle count and the judgement of the beat just ended (R13, R72, R107, R159,
R169). What goes STALE by its age and by an ABSENT source is handed on together (R15). The quiet count advances before
a resolved value that goes STALE restarts it, so that it ends at 0; no rule orders the two (R169; DESIGN CHOICE, log 6).
`before` is the state as the boundary fell. -/
def State.boundaryAgeing (order : BoundaryOrder) (s before : State) : State :=
  let t := ((s.countQuiet before.stc.state).ageView).agePeers (before.ignitionRose s) order.restartFirst
  (t.handOnSince s.view).countSettle.protect order.stallFirst

/-- The findings and the flash state in the order that `findingFirst` gives, then the demands handed to the channels,
and the release counts (R45 to R47, R74, R78, R110, R113). A WARN telltale takes the warning condition as it stands
here: after the over-current trips and stall verdicts of this boundary, so that a channel they latch counts in it; after
the checks of this boundary have cleared OPEN flags, in either order of the findings, and before a LATCHED channel is
released at this boundary; and after IGNITION has restarted PARKED peers, which are LIVE in it. The manual orders none
of these beside the taking (R46, R107, R112, R116, R124, R160; DESIGN CHOICE, log 6). -/
def State.boundaryFlash (order : BoundaryOrder) (s : State) : State :=
  let leave := order.leave.contains .openFlagSet
  (if order.findingFirst then (((s.findings leave).formFlash s).handDemands)
   else ((s.formFlash s).handDemands.findings leave)).countReleases

/-- The budget and the sag judgement, then every channel from what now stands (R52, R98, R136, R168). `found` is the
state in which the boundary found the station. -/
def State.boundaryDrive (found : StationState) (order : BoundaryOrder) (s : State) : State :=
  let t := (s.sagAndBudget found order.sagFirst).ageCache
  t.formChannels (if order.gaugeSagFirst then decide (t.stc.state = .sag) else decide (found = .sag))

/-- The work of a boundary, before the end of its instant. At a wrap a pending alignment is applied before a status
age or a presence of this boundary changes the reference, which would discard it; no rule orders the two (R63, R69;
DESIGN CHOICE, log 26). Nor does one order the following, where the order of the parts settles the outcome (DESIGN
CHOICE, log 6): due staged values are taken before entries go STALE (R13, R19); peers' presences age, and PARKED peers
restart with IGNITION, before a WARN telltale takes the warning condition (R46, R116, R159, R160); a channel that an
over-current trip or a stall verdict of this boundary latches counts in that taking, the trips being in `boundaryAgeing`
and the taking in `boundaryFlash` (R46, R107, R116, R124); an OPEN flag that a check of this boundary clears is clear
when that telltale takes it (R46, R112, R116); SAG is entered before the park conditions are judged, so that no parking
starts at that boundary and none is abandoned with a STATUS of its own (R168 to R170); the park conditions are judged
after the boundary's quiet count, taking, drive and ALERT offers, so that they read the applied duties and the queue that
these leave, and before its refresh, READING and STATUS (R169); and the view ages before the boundary's own refresh
applies pairs to it, on a LISTEN-ONLY station or where they are dropped, so that their age is 0 after it, though R13
allows 0 or 1, and a contention or none. -/
def State.boundary (order : BoundaryOrder) (s : State) : State :=
  ((((((s.boundaryTaking order).boundaryAgeing order s).boundaryFlash order).boundaryDrive s.stc.state
    order).judgeParking s.stc.state).countOffers s.stc.state)

/-- BEAT_BOUNDARY (R60): the beat timer runs in every state but START. -/
def execBeatBoundary (order : BoundaryOrder) (s : State) : Host.Outcome State Fault Refusal :=
  .next (if s.timerRuns then (s.boundary order).finish s else s)

/-! ## Its events as steps of their own -/

/-- An event that the boundary left, and what follows of it at the end of its instant. -/
def State.takeLeft (e : BoundaryEvent) (f : State → State) (s : State) : State :=
  if s.leftOver e then (f s).finish s else s

/-- One channel formed for the boundary in progress, once nothing more of it is left (R52). A gauge whose forming was
withheld is held or released here by the state after the sag judgement, whatever `gaugeSagFirst` says of the gauges
formed in BEAT_BOUNDARY itself; R99 allows either order (DESIGN CHOICE, log 5). -/
def State.formLeft (n : ChannelNo) (s : State) : State :=
  s.modifyChan n (fun c => if s.withheld c then c else s.formChannel (decide (s.stc.state = .sag)) c)

/-- One channel after a change of its protection state at the boundary: a stall window may open (R122). -/
def State.windowLeft (n : ChannelNo) (s : State) : State := s.modifyChan n (fun c => c.openWindow.markBeat)

/-- A channel's record where a condition holds, acted on by `f`. -/
def State.onChan (n : ChannelNo) (p : Channel → Bool) (f : State → State) (s : State) : State :=
  match s.chan n with
  | some c => if p c then f s else s
  | none => s

/-- A channel's staged value whose count has reached 0 (R19). -/
def Channel.stagedDue (c : Channel) : Bool :=
  match c.staged with
  | some v => v.left == 0
  | none => false

/-- An intrinsic function's staged value is taken at the boundary that is about to be taken (R20), with what IGNITION
does as it becomes active (R20, R53, R115, R160). -/
def State.takeIntrinsic (f : Intrinsic) (s : State) : State :=
  let t : State := { s with intrinsics := tableModify f (fun x => x.atBoundary) s.intrinsics }
  if f = .ignition ∧ s.ignitionRose t = true then t.ignitionOn.restartParked else t

/-- An intrinsic function's staged value is to be taken at the next boundary. -/
def State.intrinsicDue (f : Intrinsic) (s : State) : Bool :=
  match tableGet f s.intrinsics with
  | some x => match x.staged with
    | some v => decide (v.left ≤ 1)
    | none => false
  | none => false

/-- STAGED_VALUE_TAKEN (R19): a channel's value that the boundary left; or an intrinsic function's, as a step just
before BEAT_BOUNDARY, the beat timer having reached 20 ms. -/
def execStagedValueTaken (holder : Holder) (s : State) : Host.Outcome State Fault Refusal :=
  .next (match holder with
    | .channel n =>
      s.takeLeft .stagedValueTaken (State.onChan n Channel.stagedDue (fun s => (s.modifyChan n Channel.take).formLeft n))
    | .intrinsic f =>
      if s.timerRuns && decide (s.clock.position = Config.beat) && s.intrinsicDue f then (s.takeIntrinsic f).finish s
      else s)

/-- STALL_VERDICT (R124). -/
def execStallVerdict (n : ChannelNo) (s : State) : Host.Outcome State Fault Refusal :=
  .next (s.takeLeft .stallVerdict
    (State.onChan n (fun c => match c.window with | some w => w.left == 0 | none => false)
      (fun s => (s.stallVerdict true n).formLeft n)))

/-- TEST_OVERRIDE_EXPIRY (R50). -/
def execTestOverrideExpiry (n : ChannelNo) (s : State) : Host.Outcome State Fault Refusal :=
  .next (s.takeLeft .testOverrideExpiry
    (State.onChan n (fun c => match c.test with | some t => t.left == 0 | none => false)
      (fun s => (s.modifyChan n Channel.expireTest).formLeft n)))

/-- BLANKING_END (R105). -/
def execBlankingEnd (n : ChannelNo) (s : State) : Host.Outcome State Fault Refusal :=
  .next (s.takeLeft .blankingEnd
    (State.onChan n (fun c => decide (c.protection = .blanking) && c.blanking == 0)
      (fun s => (s.modifyChan n Channel.endBlanking).windowLeft n)))

/-- OVERCURRENT_TRIP (R107, R105). -/
def execOvercurrentTrip (n : ChannelNo) (s : State) : Host.Outcome State Fault Refusal :=
  .next (s.takeLeft .overcurrentTrip
    (State.onChan n Channel.tripDue (fun s => (s.overcurrentTrip n).formLeft n)))

/-- OPEN_FLAG_SET (R112). -/
def execOpenFlagSet (n : ChannelNo) (s : State) : Host.Outcome State Fault Refusal :=
  .next (s.takeLeft .openFlagSet (State.openFlagSet n))

/-- RETRY_WAIT_END (R108). -/
def execRetryWaitEnd (n : ChannelNo) (s : State) : Host.Outcome State Fault Refusal :=
  .next (s.takeLeft .retryWaitEnd
    (State.onChan n (fun c => decide (c.protection = .tripped) && c.wait == 0 && !s.withheld c)
      (fun s => (s.modifyChan n (Channel.endWait s.clock.instant)).windowLeft n)))

/-- TRIP_COUNT_CLEAR (R109). -/
def execTripCountClear (n : ChannelNo) (s : State) : Host.Outcome State Fault Refusal :=
  .next (s.takeLeft .tripCountClear (State.modifyChan · n Channel.clearTrips))

/-- LATCH_RELEASE (R110). -/
def execLatchRelease (n : ChannelNo) (s : State) : Host.Outcome State Fault Refusal :=
  .next (s.takeLeft .latchRelease
    (State.onChan n (fun c => decide (c.protection = .latched) && c.release == 2 && !s.withheld c)
      (fun s => (s.modifyChan n (Channel.releaseDue s.clock.instant)).windowLeft n)))

/-- REFRESH (R6). -/
def execRefresh (s : State) : Host.Outcome State Fault Refusal :=
  .next (s.takeLeft .refresh (fun s => if 32 ≤ s.origins.refreshCount then s.refreshNow else s))

/-- SCHEDULED_READING (R39). -/
def execScheduledReading (s : State) : Host.Outcome State Fault Refusal :=
  .next (s.takeLeft .scheduledReading (fun s => if 16 ≤ s.itm.readingCount then s.readingNow else s))

/-- SCHEDULED_STATUS (R154). -/
def execScheduledStatus (s : State) : Host.Outcome State Fault Refusal :=
  .next (s.takeLeft .scheduledStatus (fun s => if 16 ≤ s.sched.count then s.statusFallsDue else s))

/-- EARLY_STATUS (R154): the early request stands and the spacing count has reached 2; not in PARKED. -/
def execEarlyStatus (s : State) : Host.Outcome State Fault Refusal :=
  .next (s.takeLeft .earlyStatus (fun s =>
    if s.sched.early = true ∧ s.stc.state ≠ .parked ∧ (2 ≤ s.sched.spacing ∨ s.sched.made = false) then
      { s with sched := { s.sched with due := true } }
    else s))

/-- PENDING_ALIGNMENT_APPLIED (R69): the count and the phase; then the flash phase, and the channels that follow it,
from the new b (R78). A WARN telltale follows none: it took its condition at the boundary (R46). -/
def execPendingAlignmentApplied (s : State) : Host.Outcome State Fault Refusal :=
  .next (match s.flash.pendingAlign with
    | some a =>
      if s.alignDue then
        (let t := s.applyAlign a
         let t : State := { t with flash := { t.flash with left := t.flash.left.phase t.clock.b
                                                           right := t.flash.right.phase t.clock.b } }
         let t := t.handPhase
         t.mapChans (fun _ c =>
           if c.switched && !t.withheld c then t.formChannel (decide (t.stc.state = .sag)) c else c)).finish s
      else s
    | none => s)

/-- VIEW_ENTRY_STALE (R13). -/
def execViewEntryStale (f : Nat) (s : State) : Host.Outcome State Fault Refusal :=
  .next (s.takeLeft .viewEntryStale (fun s => (s.expireEntries (fun e => e.function == f)).handOnSince s.view))

/-- PEER_STALE (R159). -/
def execPeerStale (p : Station) (s : State) : Host.Outcome State Fault Refusal :=
  .next (s.takeLeft .peerStale (State.stalePeers (fun k => k == p)))

/-- PEER_ABSENT (R159). -/
def execPeerAbsent (p : Station) (s : State) : Host.Outcome State Fault Refusal :=
  .next (s.takeLeft .peerAbsent (fun s => (s.absentPeers (fun k => k == p)).handOnSince s.view))

/-- STATUS_AGE_EXPIRY (R62). -/
def execStatusAgeExpiry (p : Station) (s : State) : Host.Outcome State Fault Refusal :=
  .next (s.takeLeft .statusAgeExpiry (fun s =>
    if p ≠ s.stc.own ∧ (s.peer p).statusAge = Config.peerStaleAge then s.formReference else s))

/-- SETTLE_COUNT_COMPLETE (R72, R162). -/
def execSettleCountComplete (s : State) : Host.Outcome State Fault Refusal :=
  .next (s.takeLeft .settleCountComplete (fun s =>
    if s.flash.settle = Config.settleLimit then s.closeLearning else s))

/-- LEVEL_LOWERED (R134, R137). -/
def execLevelLowered (s : State) : Host.Outcome State Fault Refusal :=
  .next (s.takeLeft .levelLowered (fun s => ({ s with budget := s.budget.lower } : State).formLe))

/-- SAG_EXIT (R168). -/
def execSagExit (s : State) : Host.Outcome State Fault Refusal :=
  .next (s.takeLeft .sagExit (fun s =>
    if s.stc.state = .sag ∧ Config.sagExitLimit ≤ s.stc.sagExit then s.leaveSag else s))

/-- PARKING_START (R169, R170). -/
def execParkingStart (s : State) : Host.Outcome State Fault Refusal :=
  .next (s.takeLeft .parkingStart (fun s => if s.parkConditions then s.startParking else s))

end Sys2Proof.Machine
end

