-- ==== Sys2Proof/Machine/Profile.lean ====
section
/-! DEFINITION. The profile checks (R166, with R2, R10, R16, R42, R88) and what is built from an accepted profile at
entry to RUN (R1, R2, R22, R41, R43, R89, R162). -/

namespace Sys2Proof.Machine

/-! ## Checks of the common section (order 5) -/

/-- A value in a range, ends included. -/
def inRange (lo hi x : Nat) : Bool := decide (lo ≤ x) && decide (x ≤ hi)

/-- The system nominal is 6 or 12, and the charge threshold lies in its band (TABLE 59). -/
def bandHolds (nominal threshold : Nat) : Bool :=
  (nominal == 6 && inRange 4000 9000 threshold) || (nominal == 12 && inRange 8000 16000 threshold)

/-- The common section passes order 5 (TABLE 59): every field in its range, the earth polarity among them, and the
thresholds in their relations. -/
def commonValid (c : CommonSection) : Bool :=
  c.coded && inRange 1 255 c.aCharge && inRange 1 255 c.aBattery && inRange 0 50 c.margin
    && inRange 4000 16000 c.chargeThreshold && inRange 3200 12000 c.sagThreshold && inRange 50 3000 c.parkDelay
    && decide (c.sagThreshold < c.chargeThreshold) && bandHolds c.nominal c.chargeThreshold

/-! ## Checks of the station section (order 6) -/

/-- The mode of an input in a section; an input that the section does not list is UNUSED. -/
def sectionMode (sec : StationSection) (k : Nat) : InputMode := (sec.modes[k]?).getD .unused

/-- The input is in a switch mode. -/
def switchModeAt (sec : StationSection) (k : Nat) : Bool :=
  decide (sectionMode sec k = .switchToEarth) || decide (sectionMode sec k = .switchToFeed)

/-- The input is in SENDER mode. -/
def senderModeAt (sec : StationSection) (k : Nat) : Bool := decide (sectionMode sec k = .sender)

/-- An origin entry passes order 6 (TABLE 7, R2): the fields its mode carries, and the modes of its inputs. -/
def originValid (sec : StationSection) (o : OriginProfile) : Bool :=
  inRange 1 255 o.function && inRange 0 7 o.first
    && match o.mode with
       | .switch => switchModeAt sec o.first && inRange 0 255 o.closedValue && inRange 0 255 o.openValue
       | .pair =>
         inRange 0 7 o.second && switchModeAt sec o.first && switchModeAt sec o.second && o.first != o.second
           && inRange 0 255 o.comboOpenOpen && inRange 0 255 o.comboClosedOpen && inRange 0 255 o.comboOpenClosed
           && inRange 0 255 o.comboClosedClosed
       | .analog => senderModeAt sec o.first && inRange 0 4095 o.offset

/-- The channel record of a section under a number. -/
def sectionChannel (sec : StationSection) (n : Nat) : Option ChannelProfile :=
  (sec.channels.find? (fun e => e.1 == n)).map Prod.snd

/-- A map entry passes order 6 (R16): ranges, and a channel of kind LAMP or FAN. -/
def mapValid (sec : StationSection) (m : MapEntry) : Bool :=
  inRange 1 255 m.function && inRange 0 11 m.channel
    && (match m.filter with | some p => inRange 0 7 p | none => true)
    && match sectionChannel sec m.channel with
       | some c => decide (c.kind = .lamp) || decide (c.kind = .fan)
       | none => false

/-- The side is one the kind takes; LAMP, FAN and GAUGE carry none (R42, TABLE 19). -/
def sideValid (c : ChannelProfile) : Bool :=
  match c.kind with
  | .flash => decide (c.side = .left) || decide (c.side = .right)
  | .stopflash => decide (c.side = .left) || decide (c.side = .right)
  | _ => true

/-- The shed action is one the kind takes (R42, TABLE 19). -/
def actionValid (c : ChannelProfile) : Bool :=
  match c.action with
  | .off => true
  | .cap k => (decide (c.kind = .lamp) || decide (c.kind = .fan)) && inRange 1 254 k

/-- A gauge's source is a sender of a section present in the image (R88). -/
def sourceValid (i : ProfileImage) (own : Station) (sec : StationSection) (g : GaugePart) : Bool :=
  if g.station = own.val then senderModeAt sec g.input
  else match i.sections.find? (fun e => e.1.val == g.station) with
    | some e => i.common.sections.getLsbD g.station && senderModeAt e.2 g.input
    | none => false

/-- The gauge part passes order 6 (TABLE 29, R88); the curve's length and order of readings are order 7. -/
def gaugeValid (i : ProfileImage) (own : Station) (sec : StationSection) (g : GaugePart) : Bool :=
  inRange 0 7 g.station && inRange 0 7 g.input && inRange 0 16000 g.vZero && inRange 0 16000 g.vFull
    && inRange 0 7 g.shift && g.curve.all (fun q => inRange 0 4095 q.1 && inRange 0 1000 q.2)
    && sourceValid i own sec g

/-- A channel record passes order 6 (TABLE 19, R42). -/
def channelValid (i : ProfileImage) (own : Station) (sec : StationSection) (e : Nat × ChannelProfile) : Bool :=
  inRange 0 11 e.1 && inRange 1 255 e.2.nominal && inRange 0 3 e.2.shedClass && sideValid e.2 && actionValid e.2
    && match e.2.kind with
       | .lamp => inRange 3000 16000 e.2.rated
       | .fan => inRange 3000 16000 e.2.rated && inRange 1 255 e.2.minRipple
       | .gauge => gaugeValid i own sec e.2.gauge
       | .flash => true
       | .stopflash => true
       | .telltale => true

/-- The gauges of a section. -/
def sectionGauges (sec : StationSection) : List GaugePart :=
  sec.channels.filterMap (fun e => if e.2.kind = .gauge then some e.2.gauge else none)

/-- The distinct remote sources of a section's gauges (R88, R89). -/
def remoteSources (own : Station) (sec : StationSection) : List (Nat × Nat) :=
  (((sectionGauges sec).filter (fun g => g.station != own.val)).map (fun g => (g.station, g.input))).eraseDups

/-- The station section passes order 6 (R2, R16, R42, R88, R166): its fields with named values, and the rest. -/
def sectionValid (i : ProfileImage) (own : Station) (sec : StationSection) : Bool :=
  sec.coded && decide (sec.origins.length ≤ 12) && decide (sec.maps.length ≤ 16)
    && sec.origins.all (originValid sec) && sec.maps.all (mapValid sec)
    && sec.channels.all (channelValid i own sec) && decide (sec.channels.map Prod.fst).Nodup
    && decide ((remoteSources own sec).length ≤ 4)

/-! ## Orders 7 and 8 -/

/-- Readings strictly ascending (R88). -/
def ascending : List (Nat × Nat) → Bool
  | a :: b :: rest => decide (a.1 < b.1) && ascending (b :: rest)
  | _ => true

/-- A curve passes order 7. -/
def curveValid (curve : List (Nat × Nat)) : Bool :=
  decide (2 ≤ curve.length) && decide (curve.length ≤ 6) && ascending curve

/-- The fixed stale action of a function, if it is intrinsic (R10). -/
def fixedAction (f : Nat) : Option StaleAction :=
  (allIntrinsics.find? (fun i => intrinsicNumber i == f)).map intrinsicAction

/-- Two map entries that agree wherever they name one function (R16). -/
def mapsAgree (m k : MapEntry) : Bool := m.function != k.function || (m.action == k.action && m.filter == k.filter)

/-- A map entry of an intrinsic function has its fixed action (R10). -/
def keepsFixed (m : MapEntry) : Bool :=
  match fixedAction m.function with
  | some a => m.action == a
  | none => true

/-- The section passes order 8 (R2, R10, R16). -/
def conflictFree (sec : StationSection) : Bool :=
  decide (sec.origins.map OriginProfile.function).Nodup
    && sec.maps.all (fun m => sec.maps.all (mapsAgree m)) && sec.maps.all keepsFixed

/-! ## The eight checks -/

/-- Every section that the mask says is present was found (R166, order 3). -/
def sectionsFound (i : ProfileImage) : Bool :=
  i.located && allStations.all (fun p => !i.common.sections.getLsbD p.val || (tableGet p i.sections).isSome)

/-- The fault code of an image at a station, by the first check that fails, from order 2 on (TABLE 58). -/
def imageFault (own : Station) (i : ProfileImage) : Option FaultCode :=
  if imageCheckHolds i.bytes = false then some .badCheck
  else if i.formatCode ≠ 1 ∨ 2048 < i.imageLength ∨ sectionsFound i = false then some .badFormat
  else if i.common.sections.getLsbD own.val = false then some .noSection
  else if commonValid i.common = false then some .badValue
  else match tableGet own i.sections with
    | none => some .badFormat
    | some sec =>
      if sectionValid i own sec = false then some .badValue
      else if (sectionGauges sec).all (fun g => curveValid g.curve) = false then some .badCurve
      else if conflictFree sec = false then some .conflict
      else none

/-! ## Building from an accepted profile -/

/-- The function numbers of the map entries that are not intrinsic, each once, in the order first named (R1). -/
def extraFunctions (sec : StationSection) : List Nat :=
  ((sec.maps.map MapEntry.function).filter (fun f => (fixedAction f).isNone)).eraseDups

/-- The view entry of a function, with filter and action from its map entries (R10). -/
def viewEntryOf (sec : StationSection) (f : Nat) : ViewEntry :=
  match sec.maps.find? (fun m => m.function == f) with
  | some m => ViewEntry.fresh f m.filter m.action
  | none => ViewEntry.fresh f none ((fixedAction f).getD .hold)

/-- The view at entry to RUN (R1, R10). -/
def buildView (sec : StationSection) : List ViewEntry :=
  ((allIntrinsics.map intrinsicNumber) ++ extraFunctions sec).map (viewEntryOf sec)

/-- The inputs at entry to RUN: their modes (R22). -/
def buildInputs (sec : StationSection) (inputs : List (InputNo × Input)) : List (InputNo × Input) :=
  tableMap (fun i x => { x with mode := sectionMode sec i.val }) inputs

/-- An origin entry as loaded (R2). The manual gives no last sent validity for it, and this model takes invalid; nothing
reads it before the first offer sets it, since an absent last sent value counts as changed (R4, R5; DESIGN CHOICE,
log 22). -/
def Origin.build (o : OriginProfile) : Origin := { prof := o, present := none, sent := none, sentValid := false }

/-- The channel records at entry to RUN, by channel number (R41, R43). -/
def buildChannels (sec : StationSection) : List (ChannelNo × Channel) :=
  allChannels.filterMap (fun n => (sectionChannel sec n.val).map (fun p => (n, Channel.build p)))

/-- The cache at entry to RUN (R89). -/
def buildCache (own : Station) (sec : StationSection) : List CacheEntry :=
  (remoteSources own sec).map (fun q => { station := q.1, input := q.2, value := 0, valid := false, age := 255 })

/-- The expected set at entry to RUN (R162). -/
def buildExpected (own : Station) (mask : Byte) : ExpectedSet :=
  if mask = 0#8 then { members := [own], learning := true } else { members := maskMembers mask, learning := false }

end Sys2Proof.Machine
end

