-- ==== Sys2Proof/Machine/Start.lean ====
section
/-! DEFINITION. The meanings of the resets (R35, R172) and of START (R165 to R167): POWER_ON_RESET, PIN_RESET,
RESET_END, PROFILE_ATTEMPT_END, PROFILE_TIMEOUT. -/

namespace Sys2Proof.Machine

/-! ## Resets -/

/-- POWER_ON_RESET (R172, R35): the supply has fallen below 3000 mV; the part is held and releases the line. -/
def execPowerOnReset (s : State) : Host.Outcome State Fault Refusal :=
  .next ({ s with hold := { s.hold with powerOn := true } } : State).releaseAll

/-- PIN_RESET (R172): the RESET terminal is low; the part is held and releases the line. -/
def execPinReset (s : State) : Host.Outcome State Fault Refusal :=
  .next ({ s with hold := { s.hold with pin := true } } : State).releaseAll

/-- A reset's hold. -/
def ResetHold.stands (h : ResetHold) : ResetCause → Bool
  | .powerOn => h.powerOn
  | .pin => h.pin
  | .serviceRestart => h.service

/-- A reset's hold taken away. -/
def ResetHold.clear (h : ResetHold) : ResetCause → ResetHold
  | .powerOn => { h with powerOn := false }
  | .pin => { h with pin := false }
  | .serviceRestart => { h with service := false }

/-- RESET_END (R172): a hold ends. The one that ends last gives the cause: every block takes its reset values and
START begins; the commands that wait are the outside world's and stay. -/
def execResetEnd (cause : ResetCause) (straps : Station) (s : State) : Host.Outcome State Fault Refusal :=
  .next (if s.hold.stands cause then
      (let t : State := { s with hold := s.hold.clear cause }
       if t.held then t else { State.afterReset cause straps with pending := s.pending })
    else s)

/-! ## The end of START -/

/-- The first supply sample fills the ring (R36). -/
def State.firstSupply (supply : Nat) (s : State) : State :=
  { s with itm := { s.itm with supplyRing := List.replicate 8 (supplySample supply), vs := supplySample supply } }

/-- The beat timer starts at b = 0; beat 0 takes its supply sample now (R28, R36, R60). The first switch sampling
instant and the first pulse period fall due at once (R24, R57). -/
def State.startTimers (s : State) : State :=
  { s with clock := { b := 0, position := 0, atBoundary := false, instant := s.clock.instant, left := [],
                      formDue := false, validityLeft := [], settledLeft := [], sampled := false, firstBeat := true,
                      sinceSwitch := Config.switchRun, sincePeriod := Config.pulsePeriod } }

/-- The profile is accepted: the station enters RUN with everything built from it (R165). -/
def State.enterRun (common : CommonSection) (sec : StationSection) (supply : Nat) (s : State) : State :=
  let s := (s.startTimers).firstSupply supply
  { s with
    stc := { s.stc with state := .run }
    common := some common
    itm := { s.itm with inputs := buildInputs sec s.itm.inputs }
    origins := { entries := sec.origins.map Origin.build, refreshCount := 0 }
    view := buildView sec
    maps := sec.maps
    chans := buildChannels sec
    cache := buildCache s.stc.own sec
    expected := buildExpected s.stc.own common.expected }

/-- START ends with a fault: CONFIG FAULT (R165, R167). -/
def State.enterConfigFault (supply : Nat) (s : State) : State :=
  let s := (s.startTimers).firstSupply supply
  { s with stc := { s.stc with state := .configFault } }

/-- The first fault recorded since the reset is kept (R165). -/
def State.recordFault (f : FaultCode) (s : State) : State :=
  { s with stc := { s.stc with fault := some (s.stc.fault.getD f) } }

/-- The station is in START, reading its profile. -/
def State.starting (s : State) : Bool := !s.held && decide (s.stc.state = .start)

/-- A fault of order 1 or 2 allows another attempt while fewer than three have been made (R165). -/
def retries (f : FaultCode) (made : Nat) : Bool :=
  (decide (f = .noMemory) || decide (f = .badCheck)) && decide (made < 3)

/-- An attempt that ends in a fault (R165). -/
def State.attemptFails (f : FaultCode) (supply : Nat) (s : State) : State :=
  if retries f s.stc.attempts then s.recordFault f else (s.recordFault f).enterConfigFault supply

/-- The outcome of an attempt that read an image (R165, R166). -/
def State.judgeImage (i : ProfileImage) (supply : Nat) (s : State) : State :=
  match imageFault s.stc.own i, tableGet s.stc.own i.sections with
  | some f, _ => s.attemptFails f supply
  | none, some sec => s.enterRun i.common sec supply
  | none, none => s.attemptFails .badFormat supply

/-- 200 ms have passed since START began (R165). -/
def State.profileLate (s : State) : Bool := decide (Config.profileLimit < s.stc.sinceStart)

/-- PROFILE_ATTEMPT_END (R165): the attempt is judged; an attempt that has run past 200 ms fails with NO MEMORY and
ends START. -/
def execProfileAttemptEnd (read : ProfileRead) (supply : Nat) (s : State) : Host.Outcome State Fault Refusal :=
  .next (if s.starting then
      (let t : State := { s with stc := { s.stc with attempts := s.stc.attempts + 1 } }
       if t.profileLate then (((t.recordFault .noMemory).enterConfigFault supply).finish s)
       else match read with
         | .noAnswer => (t.attemptFails .noMemory supply).finish s
         | .image i => (t.judgeImage i supply).finish s)
    else s)

/-- PROFILE_TIMEOUT (R165): 200 ms have passed since START began with an attempt in progress. -/
def execProfileTimeout (supply : Nat) (s : State) : Host.Outcome State Fault Refusal :=
  .next (if s.starting then
      (let t : State := { s with stc := { s.stc with attempts := s.stc.attempts + 1
                                                     sinceStart := max Config.profileLimit s.stc.sinceStart } }
       ((t.recordFault .noMemory).enterConfigFault supply).finish s)
    else s)

end Sys2Proof.Machine
end

