-- ==== Sys2Proof/Machine/Sampling.lean ====
section
/-! DEFINITION. The meanings of the sampling commands: the sample point (R28 to R37), validity changes (R31, R40),
switch sampling and settling (R23 to R27), the offers of origin entries (R5), the pulse period with its current
readings (R57, R102), shorts (R106) and ripple (R121). -/

namespace Sys2Proof.Machine

/-! ## Origin offers -/

/-- The entry, once it has formed its present value, has one that counts as changed (R4, R5). -/
def Origin.offers (inputs : List (InputNo × Input)) (o : Origin) : Bool := (o.form inputs).changed inputs

/-- The entry after it has formed its present value, and has set what was last sent if it offers (R3 to R5, R7). -/
def Origin.formed (inputs : List (InputNo × Input)) (o : Origin) : Origin :=
  if o.offers inputs then (o.form inputs).markSent inputs else o.form inputs

/-- The origin entries that `p` picks form their present values; those that have changed offer their pairs together,
in ascending function number and among those that other commands of the instant have offered, and set what was last
sent (R3 to R5, R7, R151). -/
def State.formOrigins (p : Origin → Bool) (s : State) : State :=
  ({ s with origins := { s.origins with
      entries := s.origins.entries.map (fun o => if p o then o.formed s.itm.inputs else o) } } : State).offerPairs
    (sortPairs ((s.origins.entries.filter (fun o => p o && o.offers s.itm.inputs)).map
      (fun o => (o.form s.itm.inputs).pair)))

/-- ANALOG entries (R4). -/
def Origin.analog (o : Origin) : Bool := decide (o.prof.mode = .analog)

/-! ## The sample point -/

/-- A supply sample enters the ring of eight, and V_s is its mean (R36). -/
def State.sampleSupply (mv : Nat) (s : State) : State :=
  let ring := lastOf 8 (s.itm.supplyRing ++ [supplySample mv])
  { s with itm := { s.itm with supplyRing := ring, vs := ring.sum / 8 } }

/-- Every sender input takes its sample (R29 to R31). -/
def State.sampleSenders (senders : List Nat) (s : State) : State :=
  { s with itm := { s.itm with
      inputs := tableMap (fun i x =>
        if x.isSender then x.sampleSender s.itm.refill ((senders[i.val]?).getD 0) else x) s.itm.inputs
      refill := false } }

/-- Every validity change that is due (R31). -/
def State.flipValidities (s : State) : State :=
  { s with itm := { s.itm with inputs := tableMap (fun _ x => x.flipValidity) s.itm.inputs } }

/-- Some validity change is due. -/
def State.anyValidityDue (s : State) : Bool := s.itm.inputs.any (fun e => e.2.validityDue)

/-- The inputs whose validity changes are due. -/
def State.validitiesDue (s : State) : List InputNo :=
  allInputs.filter (fun i => (s.input i).validityDue)

/-- What the sender samples of a sample point hand on, once every validity change of it has been taken: the ANALOG
entries offer together, and changed validities make one READING (R5, R32, R40). -/
def State.handSenders (changed : Bool) (s : State) : State :=
  let s := s.formOrigins Origin.analog
  if changed then s.offerReading else s

/-- The sender samples of a beat in RUN or SAG, what they hand on, and the early READING (R28, R32, R40).
`leaveValidity` leaves the validity changes that are due, and with them all that is handed on, to steps of their own at
this instant (log 4). -/
def State.senderWork (senders : List Nat) (leaveValidity : Bool) (s : State) : State :=
  let s := s.sampleSenders senders
  if leaveValidity && s.anyValidityDue then { s with clock := { s.clock with validityLeft := s.validitiesDue } }
  else s.flipValidities.handSenders s.anyValidityDue

/-- The beat has not taken its samples (R28). -/
def State.sampleDue (s : State) : Bool := s.timerRuns && !s.clock.sampled

/-- SAMPLE_POINT (R28): 10 ms into the beat; the supply except in the first beat, senders in RUN and SAG. -/
def execSamplePoint (supply : Nat) (senders : List Nat) (leaveValidity : Bool) (s : State) :
    Host.Outcome State Fault Refusal :=
  .next (if s.sampleDue then
      (let t := s.advance (Config.samplePoint - s.clock.position)
       let t : State := { t with clock := { t.clock with sampled := true } }
       let t := if t.clock.firstBeat then t else t.sampleSupply supply
       let t := if t.stc.state = .run ∨ t.stc.state = .sag then t.senderWork senders leaveValidity else t
       t.finish s)
    else s)

/-- One validity change that the sample point left is taken (R31). -/
def State.takeValidity (i : InputNo) (s : State) : State :=
  { s with
    itm := { s.itm with inputs := tableModify i (fun x => x.flipValidity) s.itm.inputs }
    clock := { s.clock with validityLeft := s.clock.validityLeft.filter (fun k => k != i) } }

/-- SENDER_VALIDITY_CHANGE (R31): a change that the sample point of this instant left. With the last of them the samples
are handed on: the entries together, and one READING (R5, R32, R40). -/
def execSenderValidityChange (i : InputNo) (s : State) : Host.Outcome State Fault Refusal :=
  .next (if s.timerRuns && (decide (s.stc.state = .run) || decide (s.stc.state = .sag))
        && s.clock.validityLeft.contains i then
      (let t := s.takeValidity i
       (if t.clock.validityLeft = [] then t.handSenders true else t).finish s)
    else s)

/-! ## Switch sampling -/

/-- Every switch input takes its sample (R23 to R26). -/
def sampleSwitches (vs : Nat) (volts : List Nat) (inputs : List (InputNo × Input)) : List (InputNo × Input) :=
  tableMap (fun i x => if x.isSwitch then x.sampleSwitch vs ((volts[i.val]?).getD 0) else x) inputs

/-- The accepted state of an input differs between two sets of inputs (R25). -/
def acceptedChanged (before after : List (InputNo × Input)) (i : InputNo) : Bool :=
  ((tableGet i before).getD Input.reset).accepted != ((tableGet i after).getD Input.reset).accepted

/-- An input settled between two sets of inputs (R26). -/
def justSettled (before after : List (InputNo × Input)) (i : InputNo) : Bool :=
  decide (((tableGet i before).getD Input.reset).settle < 4)
    && decide (4 ≤ ((tableGet i after).getD Input.reset).settle)

/-- An origin entry that forms its value at a sampling instant: SWITCH or PAIR, without a present value yet, or using an
input whose accepted state changed (R3, R7, R26, R27). -/
def switchForms (before after : List (InputNo × Input)) (o : Origin) : Bool :=
  !o.analog
    && (o.present.isNone || allInputs.any (fun i => originUses o.prof i.val && acceptedChanged before after i))

/-- The inputs that settled between two sets of inputs. -/
def settledInputs (before after : List (InputNo × Input)) : List InputNo :=
  allInputs.filter (justSettled before after)

/-- What the switch samples of an instant hand to the Origin Table: the entries offer together (R5, R27).
`leaveSettled` leaves the inputs that settled, and with them all that is handed on there, to steps of their own at this
instant (log 4). -/
def State.handSwitches (before after : List (InputNo × Input)) (leaveSettled : Bool) (s : State) : State :=
  if leaveSettled && settledInputs before after != [] then
    { s with clock := { s.clock with settledLeft := settledInputs before after } }
  else s.formOrigins (switchForms before after)

/-- SWITCH_SAMPLING_INSTANT (R24): all switch inputs are sampled together; what changed is handed to the Origin
Table and to Station Control (R27). -/
def execSwitchSamplingInstant (volts : List Nat) (leaveSettled : Bool) (s : State) :
    Host.Outcome State Fault Refusal :=
  .next (if s.works then
      (let t := s.advance (switchInterval s.stc.state - s.clock.sinceSwitch)
       let after := sampleSwitches t.itm.vs volts t.itm.inputs
       let t : State := { t with clock := { t.clock with sinceSwitch := 0 }, itm := { t.itm with inputs := after } }
       let t := t.handSwitches s.itm.inputs after leaveSettled
       let t := if allInputs.any (acceptedChanged s.itm.inputs after) then t.disturb else t
       t.finish s)
    else s)

/-- INPUT_SETTLED (R26): an input that the sampling instant of this instant left. With the last of them every SWITCH and
PAIR entry forms its value from the inputs as they stand, and those that have changed offer together (R3, R5, R7, R27);
an entry whose inputs neither changed nor settled forms the value it has. -/
def execInputSettled (i : InputNo) (s : State) : Host.Outcome State Fault Refusal :=
  .next (if s.works && s.clock.settledLeft.contains i then
      (let t : State := { s with clock := { s.clock with
          settledLeft := s.clock.settledLeft.filter (fun k => k != i) } }
       (if t.clock.settledLeft = [] then t.formOrigins (fun o => !o.analog) else t).finish s)
    else s)

/-! ## Pulse periods and currents -/

/-- A pulse period begins at a channel's terminal (R57): the applied duty takes effect; with on-time, the fan's
detector peak starts anew (R121) and the period's one reading enters the sum (R102). `leaveShort` notes a reading of 255
for a step of its own (R106, log 4). -/
def Channel.beginPeriod (x : Sense) (leaveShort : Bool) (c : Channel) : Channel :=
  let c := { c with driven := c.applied, dutyHeld := c.dutyHeld && decide (256 ≤ c.applied),
                    shortDue := leaveShort && decide (0 < c.applied) && decide (255 ≤ x.reading) }
  if c.applied = 0 then c
  else ({ c with peak := if c.prof.kind = .fan then currentReading x.start else c.peak } : Channel).addReading x.reading

/-- A channel's pulse period; a reading of 255 is a short, and trips at once unless that is left (R106). -/
def State.channelPeriod (period : PeriodSenses) (n : ChannelNo) (s : State) : State :=
  match s.chan n with
  | none => s
  | some c =>
    let x := (period.senses[n.val]?).getD { start := 0, reading := 0 }
    let t := s.modifyChan n (Channel.beginPeriod x period.leaveShort)
    if period.leaveShort = false ∧ 0 < c.applied ∧ 255 ≤ x.reading then t.trip n .short else t

/-- PULSE_PERIOD (R57, R102): the periods of all terminals begin together, within the beat. -/
def execPulsePeriod (period : PeriodSenses) (s : State) : Host.Outcome State Fault Refusal :=
  .next (if s.works && decide (s.clock.position + (Config.pulsePeriod - s.clock.sincePeriod) < Config.beat) then
      (let t := s.advance (Config.pulsePeriod - s.clock.sincePeriod)
       let t : State := { t with clock := { t.clock with sincePeriod := 0 } }
       (allChannels.foldl (fun t n => t.channelPeriod period n) t).finish s)
    else s)

/-- A channel whose terminal has on-time in the present period, in NORMAL or BLANKING (R106, R121). -/
def Channel.conducts (c : Channel) : Bool := c.driveable && decide (0 < c.driven)

/-- SHORT_TRIP (R106): the reading of 255 that the present period left, which has entered the sum, trips the
channel. -/
def execShortTrip (n : ChannelNo) (s : State) : Host.Outcome State Fault Refusal :=
  .next (if s.works then
      (State.onChan n (fun c => c.conducts && c.shortDue) (fun s => s.trip n .short) s).finish s
    else s)

/-- RIPPLE_PULSE (R121): the detector of a fan in its on-time meets a sensed current. -/
def execRipplePulse (n : ChannelNo) (current : Nat) (s : State) : Host.Outcome State Fault Refusal :=
  .next (if s.works then
      State.onChan n (fun c => decide (c.prof.kind = .fan) && c.conducts)
        (fun s => s.modifyChan n (Channel.ripple (currentReading current))) s
    else s)

end Sys2Proof.Machine
end

