-- ==== Sys2Proof/Machine/Line.lean ====
section
/-! DEFINITION. The meanings of the commands of the line as a sender meets it: attempts, arbitration, bit errors,
completion (R144, R145), the start bit (R65, R141), a stuck line (R149). -/

namespace Sys2Proof.Machine

/-- The time since the last start bit that was captured (R67). -/
def State.sinceStartBit (s : State) : Nat := s.lif.capture.elapsed

/-- The frame in progress runs to the end of its `n`-th character, ten bit times of 50 microseconds each (R141,
log 18). -/
def State.runFrame (n : Nat) (s : State) : State := s.advance (500 * n - s.sinceStartBit)

/-- The idle gap runs out, once the line is recessive (R141, R144, log 18). -/
def State.runGap (s : State) : State := s.advance (s.lif.dominant + (Config.idleGap - s.lif.recessive))

/-- The line state changes, and the idle gap is counted anew. -/
def State.setLine (l : LineState) (s : State) : State :=
  { s with lif := { s.lif with line := l, recessive := 0, dominant := 0 } }

/-- The line is dominant for some microseconds from here on, in which no bulletin has begun: the idle gap is counted
from the end of it (R141, log 11). -/
def State.waitGap (dominant : Nat) (s : State) : State :=
  { s with lif := { s.lif with recessive := 0, dominant := dominant } }

/-- A start bit has begun a bulletin that this station receives (R65, R141). -/
def State.beginReceiving (s : State) : State :=
  let s := s.captureNow.setLine .receiving
  { s with lif := { s.lif with ownError := false } }

/-- START_BIT_CAPTURE (R65, R141): a dominant edge on an IDLE line. After an idle gap it is the start bit that begins a
bulletin; before one has passed it begins none, and the receiver waits for the next idle gap, which is recessive line. -/
def execStartBitCapture (s : State) (dominant : Nat := 0) : Host.Outcome State Fault Refusal :=
  .next (if s.timerRuns && decide (s.lif.line = .idle) then
      (if Config.idleGap ≤ s.lif.recessive then s.beginReceiving
       else s.waitGap dominant)
    else s)

/-! ## Attempts -/

/-- The body as it goes on the line: the beat count field of a STATUS is written as the attempt begins (R64, R144). -/
def writtenBody (b : Nat) : Body → Body
  | .status x => .status { x with beat := BitVec.ofNat 8 b }
  | .alert code subject => .alert code subject
  | .function pairs => .function pairs
  | .reading items => .reading items
  | .query target item a1 a2 => .query target item a1 a2
  | .reply q item result data => .reply q item result data

/-- The bulletin of an entry at an attempt (R142, R144). -/
def State.bulletinOf (s : State) (body : Body) : Bulletin :=
  { sender := s.stc.own, seq := BitVec.ofNat 4 s.txq.seq, body := body }

/-- An attempt of the oldest WAITING entry of a kind begins (R144, R150). A STATUS is frozen from here on (R64): what a
later command of the instant changes asks for another (R154; DESIGN CHOICE, log 14). -/
def State.beginAttempt (kind : Nat) (s : State) : State :=
  match s.txq.entries.find? (Entry.waits kind) with
  | none => s
  | some e =>
    let body := writtenBody s.clock.b e.body
    let t := ((s.setEntries (modifyFirst (Entry.waits kind) (fun e => { e with inFlight := true, body := body })
      s.txq.entries)).sealOffers).captureNow.setLine .transmitting
    { t with lif := { t.lif with frame := (s.bulletinOf body).encode, ownError := false } }

/-- ATTEMPT (R144): the line IDLE, the idle gap passed, an entry that may be sent. -/
def execAttempt (s : State) : Host.Outcome State Fault Refusal :=
  .next (if s.timerRuns && decide (s.lif.line = .idle) then
      (match s.nextKind with
       | some k => s.runGap.beginAttempt k
       | none => s)
    else s)

/-- A character sent up to an instant is left off: the station stops driving and receives the rest (R144, R145). -/
def State.stopDriving (ownError : Bool) (s : State) : State :=
  { s with lif := { s.lif with line := .receiving, frame := [], ownError := ownError } }

/-- The station is in an attempt. -/
def State.attempting (s : State) : Bool := s.timerRuns && decide (s.lif.line = .transmitting)

/-- LOST_ARBITRATION (R144): the entry returns to WAITING with its attempt count unchanged. -/
def execLostArbitration (s : State) : Host.Outcome State Fault Refusal :=
  .next (if s.attempting then (s.stopDriving false).sealOffers.setEntries (returnToWaiting s.txq.entries) else s)

/-- tx bit errors + 1, and tx dropped with it at the sixteenth error (R145). -/
def State.countBitError (dropped : Bool) (s : State) : State :=
  { s with lif := { s.lif with counters := { s.lif.counters with
      txBitErrors := sat255 (s.lif.counters.txBitErrors + 1)
      txDropped := if dropped then sat255 (s.lif.counters.txDropped + 1) else s.lif.counters.txDropped } } }

/-- The entry IN FLIGHT has its attempt counted (R145). -/
def countAttempt (l : List Entry) : List Entry :=
  modifyFirst Entry.inFlight (fun e => { e with attempts := e.attempts + 1 }) l

/-- TRANSMIT_BIT_ERROR (R145): below sixteen errors the entry returns to WAITING; at sixteen it is removed, its pairs
take the own-origin update, and Station Control hears of a lost parking STATUS or RESTART reply. -/
def execTransmitBitError (s : State) : Host.Outcome State Fault Refusal :=
  .next (if s.attempting then
      (match s.txq.entries.find? Entry.inFlight with
       | none => s.stopDriving true
       | some e =>
         if e.attempts + 1 < 16 then
           ((s.stopDriving true).countBitError false).sealOffers.setEntries
             (returnToWaiting (countAttempt s.txq.entries))
         else
           (((((s.stopDriving true).countBitError true).sealOffers.setEntries
             (removeFirst Entry.inFlight s.txq.entries)).ownOrigin e).entryLost e).finish s)
    else s)

/-! ## Completion -/

/-- The station enters PARKED (R170). The parking-pending flag clears here: R170 says that it is cleared where the
station does not enter PARKED, and no rule says when it clears where it does; the STATUS of the wake carries RUN, so it
is clear by then (R164, R171; DESIGN CHOICE, log 31). -/
def State.enterParked (s : State) : State :=
  { s with stc := { s.stc with state := .parked, parkingPending := false, quiet := 0, sagExit := 0 } }

/-- A STATUS carrying PARKED has completed (R170). -/
def State.parkingCompleted (s : State) : State :=
  if s.stc.parkingPending && s.txq.entries.isEmpty then s.enterParked else s.parkingFailed

/-- A completed entry leaves the queue: sequence, own-origin update, parking, RESTART (R8, R145, R170, R175). -/
def State.complete (e : Entry) (s : State) : State :=
  let t : State := { s with
    txq := { entries := removeFirst Entry.inFlight s.txq.entries, seq := (s.txq.seq + 1) % 16 }
    lif := { s.lif with line := .idle, recessive := 0, dominant := 0, frame := [] } }
  let t := t.sealOffers.ownOrigin e
  (if e.parkedStatus then t.parkingCompleted else t).replyGone e

/-- ATTEMPT_COMPLETE (R145): the stop bit of the check character ends without a mismatch. -/
def execAttemptComplete (s : State) : Host.Outcome State Fault Refusal :=
  .next (if s.attempting then
      (match s.txq.entries.find? Entry.inFlight with
       | none => s
       | some e => ((s.runFrame s.lif.frame.length).complete e).finish s)
    else s)

/-! ## A stuck line -/

/-- LINE_STUCK (R149): 20 ms of unbroken dominant; any attempt has ended long before. -/
def execLineStuck (s : State) : Host.Outcome State Fault Refusal :=
  .next (if s.timerRuns && (decide (s.lif.line = .idle) || decide (s.lif.line = .receiving)) then
      (let t := s.setLine .stuck
       { t with lif := { t.lif with ownError := false
                                    counters := { t.lif.counters with
                                      stuckEvents := sat255 (t.lif.counters.stuckEvents + 1) } } })
    else s)

/-- STUCK_RECOVERY (R149): 11 bit times recessive, which are the idle gap. -/
def execStuckRecovery (s : State) : Host.Outcome State Fault Refusal :=
  .next (if s.timerRuns && decide (s.lif.line = .stuck) then
      { s with lif := { s.lif with line := .idle, recessive := Config.idleGap, dominant := 0 } }
    else s)

end Sys2Proof.Machine
end

