-- ==== Sys2Proof/Machine/Receive.lean ====
section
/-! DEFINITION. The meanings of the frames that a station hears: discards (R146) and valid bulletins of every kind
but the targeted queries (R12, R75, R90, R148, R156, R157). -/

namespace Sys2Proof.Machine

/-- A frame can be heard: the line is RECEIVING, or IDLE, in which case the frame's own start bit comes first
(R141, log 18). -/
def State.canHear (s : State) : Bool :=
  s.timerRuns && (decide (s.lif.line = .receiving) || decide (s.lif.line = .idle))

/-- The frame has begun: on an IDLE line its start bit follows the idle gap, so the gap runs out first (R141,
log 18). -/
def State.hearing (s : State) : State := if s.lif.line = .receiving then s else s.runGap.beginReceiving

/-- A frame of `n` characters has been heard to its end: the line state becomes IDLE (R146). -/
def State.hearFrame (n : Nat) (s : State) : State :=
  let s := (s.hearing.runFrame n).setLine .idle
  { s with lif := { s.lif with ownError := false } }

/-- A valid bulletin of `n` characters (R146, R148, R156): the own number makes the station LISTEN-ONLY and delivers
nothing; any other reaches the Peer Table, and then what acts on its kind. -/
def State.deliver (n : Nat) (sender : Station) (seq : BitVec 4) (status : Option StatusBody) (act : State → State)
    (s : State) : State :=
  if s.canHear then
    (let t := s.hearFrame n
     (if sender = t.stc.own then t.becomeListenOnly else act (t.hearPeer sender seq status)).finish s)
  else s

/-! ## Discards -/

/-- A receive counter goes up (R147). -/
def LineCounters.count (f : RxFault) (c : LineCounters) : LineCounters :=
  match f with
  | .framing => { c with framing := sat255 (c.framing + 1) }
  | .malformed => { c with malformed := sat255 (c.malformed + 1) }
  | .check => { c with check := sat255 (c.check + 1) }
  | .unknownKind => { c with unknownKind := sat255 (c.unknownKind + 1) }

/-- The frame declares a body of more than 12 characters, a fault found at the end of character 1 (R146). -/
def overlong (heard : Reception) : Bool :=
  match heard.chars with
  | _ :: c1 :: _ => decide (12 < (c1.extractLsb' 0 4).toNat)
  | _ => false

/-- The time from a frame's start bit to the instant of its first fault (R141, R146): the end of character 1 for an
overlong one; the middle of a stop bit read dominant; the end of an idle gap; the end of the frame for the other
faults. -/
def discardTime (heard : Reception) : Nat :=
  if overlong heard then 1000
  else
    500 * heard.chars.length + (match heard.ending with
      | .complete => 0
      | .dominantStop => 475
      | .idleGap => Config.idleGap)

/-- For how long the line stays dominant after a frame's first fault: a stop bit read dominant leaves it so (R141,
R146). -/
def dominantAfter (heard : Reception) : Nat :=
  if overlong heard = false ∧ heard.ending = .dominantStop then heard.dominant else 0

/-- A frame is discarded at the instant of its first fault (R146): its counter, unless it is the frame that an own bit
error left behind (R145). The receiver then waits for the next idle gap, from the end of what is still dominant
(R141). -/
def State.discard (heard : Reception) (f : RxFault) (s : State) : State :=
  let t := s.hearing
  let u := ((t.advance (discardTime heard - t.sinceStartBit)).setLine .idle).waitGap (dominantAfter heard)
  { u with lif := { u.lif with ownError := false
                               counters := if t.lif.ownError then u.lif.counters else u.lif.counters.count f } }

/-- FRAME_DISCARDED (R146): what was heard has a fault of TABLE 50. A reception without one is no discard. -/
def execFrameDiscarded (heard : Reception) (s : State) : Host.Outcome State Fault Refusal :=
  .next (if s.canHear then
      (match judge heard with
       | .fault f => s.discard heard f
       | .valid _ => s)
    else s)

/-! ## Valid bulletins -/

/-- FUNCTION_RECEIVED (R12): the pairs reach the view, in body order. -/
def execFunctionReceived (sender : Station) (seq : BitVec 4) (pairs : List (Byte × Byte)) (s : State) :
    Host.Outcome State Fault Refusal :=
  .next (s.deliver (3 + 2 * pairs.length) sender seq none (State.applyPairs sender pairs))

/-- A READING pair updates its cache entry (R90). -/
def updateCache (sender : Station) (r : ReadingItem) (cache : List CacheEntry) : List CacheEntry :=
  cache.map (fun e =>
    if e.station = sender.val ∧ e.input = r.input.val then
      { e with value := r.reading.toNat, valid := r.valid, age := 0 }
    else e)

/-- READING_RECEIVED (R90). -/
def execReadingReceived (sender : Station) (seq : BitVec 4) (items : List ReadingItem) (s : State) :
    Host.Outcome State Fault Refusal :=
  .next (s.deliver (3 + 2 * items.length) sender seq none
    (fun s => { s with cache := items.foldl (fun c r => updateCache sender r c) s.cache }))

/-- STATUS_RECEIVED (R157): the STATUS is stored, the reference formed, and then alignment judged (R62, R66). -/
def execStatusReceived (sender : Station) (seq : BitVec 4) (body : StatusBody) (s : State) :
    Host.Outcome State Fault Refusal :=
  .next (s.deliver 11 sender seq (some body) (State.align sender body.beat.toNat))

/-- The side a LAMP OUT code reports. -/
def alertSide : AlertCode → Option Side
  | .lampOutLeft => some .left
  | .lampOutRight => some .right
  | .lampOutOther => none
  | .channelLatched => none

/-- A received ALERT at the flash unit and the Protection Monitor (R75, R115): codes 1 and 2 act while their side is
active, and mark it failed; codes 3 and 4 set the alert-seen flag alone. -/
def State.hearAlert (code : AlertCode) (s : State) : State :=
  match alertSide code with
  | some sd =>
    if (s.flash.side sd).act then
      { s with flash := s.flash.modifySide sd (fun x => { x with failed := true }), alertSeen := true }
    else s
  | none => { s with alertSeen := true }

/-- ALERT_RECEIVED (R75, R115). -/
def execAlertReceived (sender : Station) (seq : BitVec 4) (code : AlertCode) (_subject : Byte) (s : State) :
    Host.Outcome State Fault Refusal :=
  .next (s.deliver 5 sender seq none (State.hearAlert code))

/-- SERVICE_REPLY_RECEIVED (R146): the sender's presence alone, at the end of a frame of six characters and the data. -/
def execServiceReplyReceived (sender : Station) (reply : HeardReply) (s : State) : Host.Outcome State Fault Refusal :=
  .next (s.deliver (6 + reply.data) sender reply.seq none id)

/-- SERVICE_QUERY_OTHER_TARGET (R173): ignored but for its sender. A query for this station is none. -/
def execServiceQueryOtherTarget (sender : Station) (seq : BitVec 4) (target : Station) (s : State) :
    Host.Outcome State Fault Refusal :=
  .next (if target = s.stc.own then s else s.deliver 7 sender seq none id)

end Sys2Proof.Machine
end

