-- ==== Sys2Proof/Machine/Service.lean ====
section
/-! DEFINITION. The meanings of the SERVICE QUERY items addressed to this station (R111, R173 to R175). Each query
is heard as a bulletin, wakes a parked station or abandons a pending parking, is judged by the tests of R173 in
order, and is answered by one reply, placed after the STATUS that the instant may make (R151). -/

namespace Sys2Proof.Machine

/-! ## Answering -/

/-- How an item answers: a result; what it changes before the channels compose, and what it does with the channels
after; its data, read from the state that all this leaves; and whether the reply is that of an accepted RESTART. -/
structure Answer where
  result : ReplyResult
  change : State → State
  effect : State → State
  data : State → List Byte
  restart : Bool

/-- A reply without effect or data. -/
def Answer.plain (r : ReplyResult) : Answer :=
  { result := r, change := id, effect := id, data := fun _ => [], restart := false }

/-- A DONE reply that carries data. -/
def Answer.report (data : State → List Byte) : Answer := { Answer.plain .done with data := data }

/-- Test 2 of R173: a station in CONFIG FAULT answers items 1 and 4 alone (R167); `a` is how the item answers
elsewhere. -/
def State.unlessFaulty (s : State) (a : Answer) : Answer :=
  if s.stc.state = .configFault then Answer.plain .noSuch else a

/-- The reply to an item is offered (R173, R175). -/
def State.reply (q : Query) (item : Byte) (a : Answer) (data : List Byte) (s : State) : State :=
  if a.restart then s.offerRestartReply q.sender item else s.offerReply q.sender item a.result data

/-- An item is carried out: what it changes, then every channel that the instant's changes reach composed once, then
what it does with the channels (R52, R83). -/
def State.carryOut (a : Answer) (s before : State) : State :=
  a.effect (((a.change s).formAfterLevels before).recomposeSince before)

/-- A targeted query of an item (R148, R156, R173): the station has heard the querier, and has woken or abandoned a
pending parking (R170, R171), when `judge` answers. So a reply shows what this very query did to the Peer Table: PEER
REPORT the querier LIVE at age 0 with its gap judged; STATION REPORT a LAMP WARNING that counts the stored faults of a
PARKED or STALE querier that the query makes LIVE, the L_e and the reference that its being LIVE brings, and no pending
alignment that the change of reference discards; CHANNEL REPORT a channel composed again on that L_e. R173 has the data
read at the instant of acceptance and does not order that beside the hearing. The data are read before the STATUS of the
same instant is offered, so that the counters of LINE COUNTERS lack a tx overflow which that offer brings; no rule orders
the two (R116, R117, R156, R173, R174; both DESIGN CHOICE, log 28). -/
def State.answerQuery (q : Query) (item : Byte) (judge : State → Answer) (s : State) : State :=
  if s.canHear then
    (let t := s.hearFrame 7
     if q.sender = t.stc.own then t.becomeListenOnly.finish s
     else
       let t := (t.hearPeer q.sender q.seq none).queried
       let u := t.carryOut (judge t) s
       (u.finish s).reply q item (judge t) ((judge t).data u))
  else s

/-! ## Reports -/

/-- STATION_REPORT (R117, R174, item 1). LAMP WARNING is read after the hearing of the query (DESIGN CHOICE, log 28). -/
def execStationReport (q : Query) (s : State) : Host.Outcome State Fault Refusal :=
  .next (s.answerQuery q 1#8 (fun _ => Answer.report State.stationReport))

/-- The channel that argument 1 names, if it has a record (R173, test 3). -/
def State.channelArg (s : State) (arg : Byte) : Option (ChannelNo × Channel) :=
  s.chans.find? (fun e => e.1.val == arg.toNat)

/-- The data of a channel's report (R59). -/
def State.channelData (n : ChannelNo) (s : State) : List Byte := ((s.chan n).map Channel.report).getD []

/-- CHANNEL_REPORT (R59, R174, item 2). -/
def execChannelReport (q : Query) (s : State) : Host.Outcome State Fault Refusal :=
  .next (s.answerQuery q 2#8 (fun t => t.unlessFaulty
    (match t.channelArg q.arg1 with
     | some e => Answer.report (State.channelData e.1)
     | none => Answer.plain .noSuch)))

/-- Test 2 of R173 for PEER REPORT. By R167 and R173 a station in CONFIG FAULT answers it NO SUCH; by R155 such a station
still reports its peers to a service tool. Nothing in the manual settles the two, and the open constant holds for either
(DESIGN CHOICE, log 29). -/
def State.unlessSilent (s : State) (a : Answer) : Answer := if Config.faultReportsPeers then a else s.unlessFaulty a

/-- PEER_REPORT (R155, R163, R174, item 3): a station 0 to 7 other than this one. -/
def execPeerReport (q : Query) (s : State) : Host.Outcome State Fault Refusal :=
  .next (s.answerQuery q 3#8 (fun t => t.unlessSilent
    (match Station.ofByte q.arg1 with
     | some p => if p = t.stc.own then Answer.plain .noSuch else Answer.report (fun u => (u.peer p).report)
     | none => Answer.plain .noSuch)))

/-- LINE_COUNTERS (R147, R174, item 4). -/
def execLineCounters (q : Query) (s : State) : Host.Outcome State Fault Refusal :=
  .next (s.answerQuery q 4#8 (fun _ => Answer.report (fun u => u.lif.counters.report)))

/-! ## Items that act -/

/-- One channel composes again (R52). -/
def State.recomposeChan (n : ChannelNo) (s : State) : State := s.modifyChan n s.recomposed

/-- A test override is set or replaced; the quiet count restarts (R53, R169, R175). -/
def State.setTest (n : ChannelNo) (t : TestOverride) (s : State) : State :=
  (s.modifyChan n (fun c => { c with test := some t })).disturb

/-- The override that argument 2 of TEST CHANNEL gives (R175): bit 7 the state, bits 6 to 0 the beats. -/
def testOf (arg : Byte) : TestOverride := { on := arg.getLsbD 7, left := (arg.extractLsb' 0 7).toNat }

/-- TEST_CHANNEL (R53, R175, item 5). -/
def execTestChannel (q : Query) (s : State) : Host.Outcome State Fault Refusal :=
  .next (s.answerQuery q 5#8 (fun t => t.unlessFaulty
    (match t.channelArg q.arg1 with
     | none => Answer.plain .noSuch
     | some e =>
       if (testOf q.arg2).left = 0 then Answer.plain .noSuch
       else if 0 < t.takenOf .ignition ∨ e.2.protection = .latched then Answer.plain .refused
       else { Answer.plain .done with change := State.setTest e.1 (testOf q.arg2), effect := State.recomposeChan e.1 })))

/-- CLEAR_LATCH (R111, R175, item 6). -/
def execClearLatch (q : Query) (s : State) : Host.Outcome State Fault Refusal :=
  .next (s.answerQuery q 6#8 (fun t => t.unlessFaulty
    (match t.channelArg q.arg1 with
     | none => Answer.plain .noSuch
     | some e =>
       if e.2.protection = .latched then
         { Answer.plain .done with effect := fun u => u.modifyChan e.1 (Channel.unlatch u.clock.instant) }
       else Answer.plain .refused)))

/-- RESTART (R175, item 7). -/
def execRestart (q : Query) (s : State) : Host.Outcome State Fault Refusal :=
  .next (s.answerQuery q 7#8 (fun t => t.unlessFaulty { Answer.plain .done with restart := true }))

/-- SERVICE_QUERY_NO_SUCH_ITEM (R173, test 1): an item that is 0 or above 7. Any other item is none. -/
def execServiceQueryNoSuchItem (q : Query) (item : Byte) (s : State) : Host.Outcome State Fault Refusal :=
  .next (if item = 0#8 ∨ 7 < item.toNat then s.answerQuery q item (fun _ => Answer.plain .noSuch) else s)

end Sys2Proof.Machine
end

