-- ==== Sys2Proof/Machine/Dispatch.lean ====
section
/-! DEFINITION. The dispatch: one arm per command, in the order of the opcode table. -/

namespace Sys2Proof.Machine

def exec (i : Instr) (s : State) : Host.Outcome State Fault Refusal :=
  match i with
  | .powerOnReset => Sys2Proof.Machine.execPowerOnReset s
  | .pinReset => Sys2Proof.Machine.execPinReset s
  | .resetEnd cause straps => Sys2Proof.Machine.execResetEnd cause straps s
  | .profileAttemptEnd read supply => Sys2Proof.Machine.execProfileAttemptEnd read supply s
  | .profileTimeout supply => Sys2Proof.Machine.execProfileTimeout supply s
  | .beatBoundary order => Sys2Proof.Machine.execBeatBoundary order s
  | .stagedValueTaken holder => Sys2Proof.Machine.execStagedValueTaken holder s
  | .stallVerdict n => Sys2Proof.Machine.execStallVerdict n s
  | .ripplePulse n current => Sys2Proof.Machine.execRipplePulse n current s
  | .testOverrideExpiry n => Sys2Proof.Machine.execTestOverrideExpiry n s
  | .shortTrip n => Sys2Proof.Machine.execShortTrip n s
  | .blankingEnd n => Sys2Proof.Machine.execBlankingEnd n s
  | .overcurrentTrip n => Sys2Proof.Machine.execOvercurrentTrip n s
  | .openFlagSet n => Sys2Proof.Machine.execOpenFlagSet n s
  | .retryWaitEnd n => Sys2Proof.Machine.execRetryWaitEnd n s
  | .tripCountClear n => Sys2Proof.Machine.execTripCountClear n s
  | .latchRelease n => Sys2Proof.Machine.execLatchRelease n s
  | .samplePoint supply senders leaveValidity => Sys2Proof.Machine.execSamplePoint supply senders leaveValidity s
  | .senderValidityChange k => Sys2Proof.Machine.execSenderValidityChange k s
  | .switchSamplingInstant volts leaveSettled => Sys2Proof.Machine.execSwitchSamplingInstant volts leaveSettled s
  | .inputSettled k => Sys2Proof.Machine.execInputSettled k s
  | .refresh => Sys2Proof.Machine.execRefresh s
  | .scheduledReading => Sys2Proof.Machine.execScheduledReading s
  | .scheduledStatus => Sys2Proof.Machine.execScheduledStatus s
  | .earlyStatus => Sys2Proof.Machine.execEarlyStatus s
  | .attempt => Sys2Proof.Machine.execAttempt s
  | .lostArbitration => Sys2Proof.Machine.execLostArbitration s
  | .transmitBitError => Sys2Proof.Machine.execTransmitBitError s
  | .attemptComplete => Sys2Proof.Machine.execAttemptComplete s
  | .frameDiscarded heard => Sys2Proof.Machine.execFrameDiscarded heard s
  | .functionReceived sender seq pairs => Sys2Proof.Machine.execFunctionReceived sender seq pairs s
  | .readingReceived sender seq items => Sys2Proof.Machine.execReadingReceived sender seq items s
  | .statusReceived sender seq body => Sys2Proof.Machine.execStatusReceived sender seq body s
  | .pendingAlignmentApplied => Sys2Proof.Machine.execPendingAlignmentApplied s
  | .alertReceived sender seq code subject => Sys2Proof.Machine.execAlertReceived sender seq code subject s
  | .serviceReplyReceived sender reply => Sys2Proof.Machine.execServiceReplyReceived sender reply s
  | .lineStuck => Sys2Proof.Machine.execLineStuck s
  | .stuckRecovery => Sys2Proof.Machine.execStuckRecovery s
  | .viewEntryStale f => Sys2Proof.Machine.execViewEntryStale f s
  | .peerStale p => Sys2Proof.Machine.execPeerStale p s
  | .peerAbsent p => Sys2Proof.Machine.execPeerAbsent p s
  | .statusAgeExpiry p => Sys2Proof.Machine.execStatusAgeExpiry p s
  | .settleCountComplete => Sys2Proof.Machine.execSettleCountComplete s
  | .levelLowered => Sys2Proof.Machine.execLevelLowered s
  | .sagExit => Sys2Proof.Machine.execSagExit s
  | .parkingStart => Sys2Proof.Machine.execParkingStart s
  | .stationReport q => Sys2Proof.Machine.execStationReport q s
  | .channelReport q => Sys2Proof.Machine.execChannelReport q s
  | .peerReport q => Sys2Proof.Machine.execPeerReport q s
  | .lineCounters q => Sys2Proof.Machine.execLineCounters q s
  | .testChannel q => Sys2Proof.Machine.execTestChannel q s
  | .clearLatch q => Sys2Proof.Machine.execClearLatch q s
  | .restart q => Sys2Proof.Machine.execRestart q s
  | .serviceQueryNoSuchItem q item => Sys2Proof.Machine.execServiceQueryNoSuchItem q item s
  | .serviceQueryOtherTarget sender seq target => Sys2Proof.Machine.execServiceQueryOtherTarget sender seq target s
  | .pulsePeriod period => Sys2Proof.Machine.execPulsePeriod period s
  | .startBitCapture dominant => Sys2Proof.Machine.execStartBitCapture s dominant

end Sys2Proof.Machine
end

