-- ==== Sys2Proof/Machine/Step.lean ====
section
/-! DEFINITION. One step: the command at the front of the queue, or, with none waiting, one tick of time; and the
placing of a table word's command at the front. -/

namespace Sys2Proof.Machine

/-- The state with other commands waiting. -/
def State.withPending (s : State) (l : List Instr) : State := { s with pending := l }

/-- One step: the command at the front runs on the state with the queue's rest; on an empty queue the block idles for
one microsecond of its oscillator (DESIGN CHOICE, log 2). -/
def step (s : State) : Host.Outcome State Fault Refusal :=
  match s.pending with
  | c :: rest => exec c (s.withPending rest)
  | [] => .next (s.advance Config.tick)

/-- The command that a table word spells, put at the front of the queue; no word spells one (log 19). -/
def State.withFetchWord (s : State) (nbits w : Nat) : State :=
  match decodeTableWord nbits w with
  | some c => s.withPending (c :: s.pending)
  | none => s

end Sys2Proof.Machine
end

