-- ==== Sys2Proof/Safety.lean ====
section
/-! DEFINITION. What a good state is, in the terms the statements use: the invariants that every step keeps, and the
frames that say what a command leaves as it was. -/

namespace Sys2Proof.Machine

/-! ## The transmit queue (R150) -/

/-- The functions of the WAITING FUNCTION entries, entry by entry. -/
def waitingFunctions (l : List Entry) : List Byte :=
  (l.filter (Entry.waits 4)).flatMap (fun e => e.pairs.map Prod.fst)

/-- What R150 says of the entries: at most 8, at most one WAITING STATUS, no function number in two WAITING FUNCTION
entries; with what that rests on: one entry IN FLIGHT at most, no function twice in it, attempt counts below 16. -/
def QueueShape (l : List Entry) : Prop :=
  l.length ≤ 8
    ∧ (l.filter (Entry.waits 12)).length ≤ 1
    ∧ (waitingFunctions l).Nodup
    ∧ (l.filter Entry.inFlight).length ≤ 1
    ∧ (flightFunctions l).Nodup
    ∧ ∀ e ∈ l, e.attempts < 16

/-- The queue has its shape, and so has the queue as the first offer of the present instant found it (log 27); an entry
is IN FLIGHT only during an attempt, or in a part held in reset whose queue is still to be cleared (R150, R172). -/
def QueueInv (s : State) : Prop :=
  QueueShape s.txq.entries ∧ QueueShape s.offered.before
    ∧ ((∃ e ∈ s.txq.entries, e.inFlight = true) → s.lif.line = .transmitting ∨ s.held = true)

/-! ## Levels (R137) -/

/-- Every level is one of 0 to 3, and L_e is the highest of the own L_c and the levels of LIVE peers (R137), but in
CONFIG FAULT, whose Budget Unit does not work (R128), and in a part held in reset, whose fields stay as they were until
RESET_END (DEDUCED, log 8). -/
def LevelInv (s : State) : Prop :=
  s.budget.lc ≤ 3 ∧ s.budget.le ≤ 3 ∧ (∀ e ∈ s.peers, ∀ x, e.2.status = some x → x.lc ≤ 3)
    ∧ (s.held = true ∨ s.stc.state = .configFault ∨ s.budget.le = s.leOf)

/-! ## Channels (R56, R97, TABLE 20) -/

/-- A channel within its ranges: duties to 1023, needle positions to 1000, and no duty while TRIPPED or LATCHED
(R56, R82, R97); and so in what the instant found, and what its boundary ran a gauge's pipeline from (log 25). -/
def Channel.Sound (c : Channel) : Prop :=
  c.applied ≤ 1023 ∧ c.target ≤ 1023 ∧ c.p ≤ 1000 ∧ c.d ≤ 1000
    ∧ (∀ q ∈ c.prof.gauge.curve, c.prof.kind = .gauge → q.2 ≤ 1000)
    ∧ (c.driveable = false → c.applied = 0)
    ∧ (∀ b, c.base = some b → b.applied ≤ 1023 ∧ b.target ≤ 1023 ∧ (b.driveable = false → b.applied = 0))
    ∧ ∀ k, c.needle = some k → k.p ≤ 1000 ∧ k.d ≤ 1000

/-- What a channel holds of an instant, it holds of no instant to come (log 25). -/
def Channel.NotedBy (now : Nat) (c : Channel) : Prop :=
  (∀ b, c.base = some b → b.instant ≤ now) ∧ ∀ k, c.needle = some k → k.instant ≤ now

/-- Every channel is within its ranges, and holds of no instant to come. -/
def ChannelsInv (s : State) : Prop := ∀ e ∈ s.chans, e.2.Sound ∧ e.2.NotedBy s.clock.instant

/-- A shed channel has a composed value of 0, or of no more than its cap (R51). -/
def Channel.ShedHolds (le : Nat) (c : Channel) : Prop :=
  c.shed le = true → match c.prof.action with
    | .off => c.composed = 0
    | .cap k => c.composed ≤ k

/-- Every shed channel is at its shed value, no boundary being half taken and no count standing at 0 (R19, R50, R51). -/
def ShedInv (s : State) : Prop :=
  s.clock.left = [] ∧ ∀ e ∈ s.chans, e.2.changeDue = false ∧ e.2.ShedHolds s.budget.le

/-- A command that takes a boundary whole: every command but a BEAT_BOUNDARY that leaves events to steps of their
own (log 4). -/
def Whole : Instr → Prop
  | .beatBoundary order => order.leave = []
  | _ => True

/-- Whole commands are all that waits. -/
def WholeQueue (s : State) : Prop := ∀ c ∈ s.pending, Whole c

/-! ## Answers -/

/-- The command answers a next state, of which `P` holds. -/
def Answers (c : Instr) (s : State) (P : State → Prop) : Prop := ∃ t, exec c s = .next t ∧ P t

/-- The command answers the state itself: it changes nothing. -/
def ChangesNothing (c : Instr) (s : State) : Prop := exec c s = .next s

/-- The resets and their end: the commands that reach a part held in reset (R172). -/
def isReset : Instr → Bool
  | .powerOnReset => true
  | .pinReset => true
  | .resetEnd _ _ => true
  | _ => false

/-- The ends of a profile attempt: with the resets, the commands that reach a station in START (R165). -/
def isProfile : Instr → Bool
  | .profileAttemptEnd _ _ => true
  | .profileTimeout _ => true
  | _ => false

/-! ## Frames -/

/-- What a service tool and the queue of commands never change: profile, maps, own number. -/
def SameProfile (s t : State) : Prop := t.common = s.common ∧ t.maps = s.maps ∧ t.stc.own = s.stc.own

/-- Inputs and origin entries are as they were. -/
def SameInputs (s t : State) : Prop := t.itm = s.itm ∧ t.origins = s.origins

/-- Peers, expected set and remote readings are as they were. -/
def SamePeers (s t : State) : Prop := t.peers = s.peers ∧ t.expected = s.expected ∧ t.cache = s.cache

/-- The beat timer is as it was, but for the note that the channels wait to be formed (log 4). -/
def SameTimer (s t : State) : Prop := t.clock = { s.clock with formDue := t.clock.formDue }

/-- Beat timer, flash unit and intrinsic functions are as they were. -/
def SameBeat (s t : State) : Prop := t.clock = s.clock ∧ t.flash = s.flash ∧ t.intrinsics = s.intrinsics

/-- The view, the lamp warning's own flag and the budget are as they were. -/
def SameView (s t : State) : Prop := t.view = s.view ∧ t.alertSeen = s.alertSeen ∧ t.budget = s.budget

/-- Every channel but one is as it was. -/
def OtherChannels (n : ChannelNo) (s t : State) : Prop := ∀ m : ChannelNo, m ≠ n → t.chan m = s.chan m

/-- Queue, schedule and Line Interface are as they were. -/
def SameLine (s t : State) : Prop := t.txq = s.txq ∧ t.sched = s.sched ∧ t.lif = s.lif

/-- The station state is as it was, and the part is not in reset. -/
def SameStation (s t : State) : Prop := t.hold = s.hold ∧ t.stc = s.stc

/-- No STATUS is due or asked for, and none of this instant waits: the end of a command that changes no early figure
makes none, and leaves the queue as it is (R154). -/
abbrev NoStatusDue (s : State) : Prop :=
  s.sched.due = false ∧ s.sched.early = false ∧ s.offered.statusMade = false

/-- The present instant has offered nothing to the queue before. -/
abbrev NothingOffered (s : State) : Prop := s.offered.offers = [] ∧ s.offered.statusMade = false

/-- The next boundary is the first thing of its instant to offer anything: time passes to it, or nothing has been
offered. -/
abbrev NewInstant (s : State) : Prop := s.clock.position < 20000 ∨ NothingOffered s

/-- The FUNCTION pairs that this instant has offered before keep their places beside `k` ALERTs more: the queue has the
places, or there are no such pairs (R151, R152). -/
def PairsKeepPlaces (k : Nat) (s : State) : Prop :=
  s.txq.entries.length + k ≤ 8 ∨ ∀ q, Offer.pair q ∉ s.offered.offers

/-- SERVICE REPLIES that this instant has offered before keep their places beside a STATUS (R151, R152). -/
abbrev RepliesKeepPlaces (s : State) : Prop := s.txq.entries.length < 8 ∨ s.offered.offers = []

/-- What stays where FUNCTION pairs lose their places and take the own-origin update, which reaches view, stagers and
Station Control (R8, R15). -/
def ButForLostPairs (s t : State) : Prop :=
  SameProfile s t ∧ SamePeers s t ∧ SameTimer s t ∧ t.flash.reference = s.flash.reference
    ∧ t.flash.settle = s.flash.settle ∧ t.budget = s.budget ∧ t.alertSeen = s.alertSeen
    ∧ t.itm.inputs = s.itm.inputs ∧ t.itm.vs = s.itm.vs ∧ t.origins.entries = s.origins.entries ∧ t.pending = s.pending

/-- Everything outside the channels, the queue with its line, and Station Control is as it was. -/
def OnlyChannels (s t : State) : Prop :=
  SameProfile s t ∧ SameInputs s t ∧ SamePeers s t ∧ SameBeat s t ∧ SameView s t ∧ t.pending = s.pending

/-! ## Parts of an outcome that several statements name -/

/-- One side's flash state after a boundary, from the taken value `indicate` of its indicator and HAZARD's, the beat
count `b`, `fallback`, and the side as the boundary found it (R71, R73, R76). -/
def SideAfterBoundary (indicate hazard b : Nat) (fallback : Bool) (before after : SideFlash) : Prop :=
  (after.act = true ↔ 0 < indicate ∨ 0 < hazard)
  ∧ after.fast = (after.act && (before.failed || fallback))
  ∧ after.period = (if after.fast = true then 16 else 32)
  ∧ (after.on = true ↔ after.act = true ∧ b % after.period < after.period / 2)
  ∧ (after.act = false → after.failed = false ∧ after.alertSent = false)
  ∧ (after.act = true → before.failed = true → after.failed = true)

/-- A channel after the five steps of a trip (R104): duty 0, the cause, the trip count, TRIPPED with its wait or LATCHED
at the third trip, the working counts at 0, no stall window. -/
def TrippedFrom (cause : TripCause) (c c' : Channel) : Prop :=
  c'.applied = 0 ∧ c'.driven = 0 ∧ c'.cause = some cause ∧ c'.trips = min 3 (c.trips + 1)
  ∧ c'.protection = (if 3 ≤ c.trips + 1 then .latched else .tripped)
  ∧ (c.trips + 1 < 3 → c'.wait = if cause = .stall then 64 else 16)
  ∧ c'.blanking = 0 ∧ c'.overcurrent = 0 ∧ c'.openCount = 0 ∧ c'.normalRun = 0 ∧ c'.release = 0
  ∧ c'.window = none ∧ c'.openFlag = c.openFlag ∧ c'.taken = c.taken ∧ c'.prof = c.prof

/-- The composed value of a channel for a shed level, in PARKED or not, from the value of step 2 of R49 (R49, R51). -/
def composedOf (le : Nat) (parked : Bool) (c : Channel) (v : Nat) : Nat :=
  if parked = true ∧ c.prof.parkPermitted = false then 0
  else if 3 - le < c.prof.shedClass then (match c.prof.action with | .off => 0 | .cap k => min v k)
  else v

/-- The value of step 2 of R49: the test override's 255 or 0, or the taken value (R50). -/
def testedValue (test : Option TestOverride) (taken : Nat) : Nat :=
  match test with
  | some x => if x.on = true then 255 else 0
  | none => taken

/-- The target duty of a channel of any kind but GAUGE for a composed value, at a filtered supply (R54, R84, R86,
R87). -/
def targetOf (vs : Nat) (c : Channel) (v : Nat) : Nat :=
  let vt := c.prof.rated * v / 255
  let q := if vs ≤ vt then 1024 else 1024 * vt / vs
  if v = 255 then 1023
  else if v = 0 then 0
  else match c.prof.kind with
    | .lamp => min 1023 (q * q / 1024)
    | .fan => min 1023 q
    | _ => 0

/-- The target duty of a GAUGE for a composed value and a displayed position, at a filtered supply (R85 to R87, R98,
R100). -/
def gaugeTargetOf (vs : Nat) (g : GaugePart) (v d : Nat) : Nat :=
  let vt := ((g.vZero : Int) + Int.tdiv ((d : Int) * ((g.vFull : Int) - (g.vZero : Int))) 1000).toNat
  let q := if vs ≤ vt then 1024 else 1024 * vt / vs
  if v = 0 ∧ d = 0 then 0
  else match g.law with
    | .thermal => min 1023 (q * q / 1024)
    | .magnetic => min 1023 q

/-- The stall window that a boundary opens on a channel without one, as it stands there (R122). -/
def windowOpened (c : Channel) : Option StallWindow :=
  if c.prof.kind = .fan ∧ c.protection = .normal ∧ c.applied = c.target ∧ 256 ≤ c.target then
    some { left := 8, ripple := 0 }
  else none

/-- The channel holds of no instant up to `now`: nothing has composed it at the present one (log 25). -/
def Channel.NotYetAt (now : Nat) (c : Channel) : Prop := ∀ b, c.base = some b → b.instant < now

/-- 255 or 0. -/
def fullIf (x : Bool) : Nat := if x = true then 255 else 0

/-- The value an origin entry forms from its inputs (R3, R4, TABLE 8). -/
def valueFormed (inputs : List (InputNo × Input)) (o : OriginProfile) : Nat :=
  let a := inputNumbered inputs o.first
  let b := inputNumbered inputs o.second
  match o.mode with
  | .switch => if a.accepted = true then o.closedValue else o.openValue
  | .pair =>
    if a.accepted = true then (if b.accepted = true then o.comboClosedClosed else o.comboClosedOpen)
    else if b.accepted = true then o.comboOpenClosed else o.comboOpenOpen
  | .analog =>
    if a.valid = true then
      (if o.invert = true then 255 - (a.reading - o.offset) / 16 else (a.reading - o.offset) / 16)
    else 0

/-- The value an origin entry forms counts as changed (R4, R5). -/
def CountsAsChanged (inputs : List (InputNo × Input)) (o : Origin) : Prop :=
  ∀ w, o.sent = some w →
    let v := valueFormed inputs o.prof
    if o.prof.mode = .analog then
      (inputNumbered inputs o.prof.first).valid ≠ o.sentValid ∨ v + 2 ≤ w ∨ w + 2 ≤ v
    else v ≠ w

/-- An origin entry `o'` that was `o` before it formed its value: without settled inputs it has none; else the value
formed is present, and what was last sent is set where the value counts as changed (R3 to R5, R7). -/
def FormedFrom (inputs : List (InputNo × Input)) (o o' : Origin) : Prop :=
  o'.prof = o.prof ∧
  (originSettled inputs o.prof = false → o.present = none → o' = o)
  ∧ (originSettled inputs o.prof = true → o'.present = some (valueFormed inputs o.prof)
      ∧ (CountsAsChanged inputs o → o'.sent = o'.present
          ∧ (o.prof.mode = .analog → o'.sentValid = (inputNumbered inputs o.prof.first).valid))
      ∧ (¬ CountsAsChanged inputs o → o'.sent = o.sent ∧ o'.sentValid = o.sentValid))

/-- The view of `t` is that of `s` after pairs from a station, each function standing once: entry by entry the filter,
the contention count, and the new value, source, freshness and age (R11, R12). -/
def ViewHears (src : Station) (pairs : List (Byte × Byte)) (s t : State) : Prop :=
  t.view.map ViewEntry.function = s.view.map ViewEntry.function
    ∧ ∀ f x, s.view.find? (fun e => e.function == f) = some x →
      t.view.find? (fun e => e.function == f) = some
        (match pairs.find? (fun q => q.1.toNat == f) with
         | none => x
         | some q =>
           if x.filter.isSome = true ∧ x.filter ≠ some src.val then { x with refused := min 255 (x.refused + 1) }
           else
             { x with
               value := q.2.toNat, source := some src, freshness := .fresh, age := 0
               contention := if x.freshness = .fresh ∧ x.source ≠ some src then min 255 (x.contention + 1)
                             else x.contention })

/-- The pairs that an instant offers, in ascending function number: those of the origin entries that `forms` picks
whose inputs are settled and whose values, formed from the inputs as they stand after it, count as changed (R3 to R5,
R7, R151). -/
def ChangedPairs (forms : Origin → Prop) (s t : State) (pairs : List (Byte × Byte)) : Prop :=
  pairs.Pairwise (fun a b => a.1 < b.1)
    ∧ ∀ q, q ∈ pairs ↔ ∃ o ∈ s.origins.entries, forms o ∧ originSettled t.itm.inputs o.prof = true
        ∧ CountsAsChanged t.itm.inputs o
        ∧ q = (BitVec.ofNat 8 o.prof.function, BitVec.ofNat 8 (valueFormed t.itm.inputs o.prof))

/-- `all` is the pairs of two sets in one ascending order, a function of both having the later value (R151). -/
def MergedPairs (earlier later all : List (Byte × Byte)) : Prop :=
  all.Pairwise (fun a b => a.1 < b.1) ∧ ∀ q, q ∈ all ↔ q ∈ later ∨ q ∈ earlier ∧ q.1 ∉ later.map Prod.fst

/-- At an instant the origin entries that `forms` picks form their values from the inputs as they stand after it, the
others staying as they are. With no function of theirs twice, and a present value at settled inputs only: those that
have changed wait as one FUNCTION entry, where the queue was empty and they are at most six; and on a LISTEN-ONLY
station they take the own-origin update at once. Where an earlier command of the same instant has offered pairs that
wait as one FUNCTION entry, the first of the instant and alone in the queue, the pairs of both, at most six, wait as
one entry in one ascending order (R3 to R5, R7, R8, R151). -/
def OffersChanges (forms : Origin → Prop) (s t : State) : Prop :=
  List.Forall₂ (fun o o' => (forms o → FormedFrom t.itm.inputs o o') ∧ (¬ forms o → o' = o)) s.origins.entries
    t.origins.entries
  ∧ ((s.origins.entries.map (fun o => BitVec.ofNat 8 o.prof.function : Origin → Byte)).Nodup →
      (∀ o ∈ s.origins.entries, o.present.isSome = true → originSettled t.itm.inputs o.prof = true) →
      ∃ pairs, ChangedPairs forms s t pairs
        ∧ (s.txq.entries = [] → s.origins.entries.length ≤ 6 → t.txq.entries.filter (fun e => e.body.kind == 4) =
            if pairs = [] then [] else [{ body := .function pairs, inFlight := false, attempts := 0, restart := false }])
        ∧ (∀ earlier, earlier ≠ [] → earlier.Pairwise (fun a b => a.1 < b.1) → t.clock.instant = s.clock.instant →
            s.txq.entries = [{ body := .function earlier, inFlight := false, attempts := 0, restart := false }] →
            s.offered = { before := [], offers := earlier.map Offer.pair, statusMade := false } →
            earlier.length + s.origins.entries.length ≤ 6 → ∃ all, MergedPairs earlier pairs all
              ∧ t.txq.entries.filter (fun e => e.body.kind == 4) =
                [{ body := .function all, inFlight := false, attempts := 0, restart := false }])
        ∧ (s.lif.listenOnly = true → ViewHears s.stc.own pairs s t))

/-- A sender input `y` that was `x` before a sample of `uv` microvolts (R29 to R31). `refill`: the first sample after
PARKED; `leave`: a validity change is left to a step of its own. -/
def SenderAfter (refill leave : Bool) (uv : Nat) (x y : Input) : Prop :=
  let sample := min 4095 (4095 * uv / 2500000)
  let ring := if refill = true then [sample, sample, sample, sample] else lastOf 4 (x.ring ++ [sample])
  let run := if decide (40 ≤ sample ∧ sample ≤ 4055) = x.valid then 0 else min 4 (x.run + 1)
  y.mode = x.mode ∧ y.ring = ring ∧ y.reading = (if ring.length = 4 then ring.sum / 4 else 0)
    ∧ (if leave = false ∧ run = 4 then y.valid = !x.valid ∧ y.run = 0 else y.valid = x.valid ∧ y.run = run)

/-- A switch input `y` that was `x` before a sample of `mv` millivolts at a filtered supply `vs` (R23, R25, R26). -/
def SwitchAfter (vs mv : Nat) (x y : Input) : Prop :=
  let sample := if mv < 3 * vs / 8 then decide (x.mode = .switchToEarth)
                else if 5 * vs / 8 < mv then decide (x.mode = .switchToFeed)
                else x.history.getLast?.getD false
  y.mode = x.mode ∧ y.history = lastOf 4 (x.history ++ [sample]) ∧ y.settle = min 4 (x.settle + 1)
    ∧ y.accepted = (if y.history = [true, true, true, true] then true
                    else if y.history = [false, false, false, false] then false else x.accepted)

/-- A command by which a valid bulletin from station `p` reaches station `own`: its sequence and, for a STATUS, its
body. SERVICE QUERY rows are told apart by target and item (R173). -/
def HeardFrom (own p : Station) (seq : BitVec 4) (status : Option StatusBody) : Instr → Prop
  | .functionReceived p' seq' _ => p' = p ∧ seq' = seq ∧ status = none
  | .readingReceived p' seq' _ => p' = p ∧ seq' = seq ∧ status = none
  | .statusReceived p' seq' x => p' = p ∧ seq' = seq ∧ status = some x
  | .alertReceived p' seq' _ _ => p' = p ∧ seq' = seq ∧ status = none
  | .serviceReplyReceived p' reply => p' = p ∧ reply.seq = seq ∧ status = none
  | .serviceQueryOtherTarget p' seq' target => p' = p ∧ seq' = seq ∧ status = none ∧ target ≠ own
  | .stationReport q => q.sender = p ∧ q.seq = seq ∧ status = none
  | .channelReport q => q.sender = p ∧ q.seq = seq ∧ status = none
  | .peerReport q => q.sender = p ∧ q.seq = seq ∧ status = none
  | .lineCounters q => q.sender = p ∧ q.seq = seq ∧ status = none
  | .testChannel q => q.sender = p ∧ q.seq = seq ∧ status = none
  | .clearLatch q => q.sender = p ∧ q.seq = seq ∧ status = none
  | .restart q => q.sender = p ∧ q.seq = seq ∧ status = none
  | .serviceQueryNoSuchItem q item =>
    q.sender = p ∧ q.seq = seq ∧ status = none ∧ (item = 0#8 ∨ 7 < item.toNat)
  | _ => False

/-- A query from another station that can be heard, with room in the queue for a STATUS and the reply (R151, R173). -/
def Asked (s : State) (q : Query) : Prop :=
  s.canHear = true ∧ q.sender ≠ s.stc.own ∧ s.txq.entries.length < 7

/-- The newest entry of the queue is the reply to a query (R173). -/
def Replied (t : State) (q : Query) (item : Byte) (result : ReplyResult) (data : List Byte) (restart : Bool) : Prop :=
  t.txq.entries.getLast? = some
    { body := .reply q.sender item result data, inFlight := false, attempts := 0, restart := restart }

/-- What no query changes: profile, view, readings, origin entries, intrinsic functions, counters, the beat count. -/
def QueryKeeps (s t : State) : Prop :=
  SameProfile s t ∧ t.view = s.view ∧ t.alertSeen = s.alertSeen ∧ t.cache = s.cache ∧ t.itm.inputs = s.itm.inputs
    ∧ t.itm.vs = s.itm.vs ∧ t.origins.entries = s.origins.entries ∧ t.intrinsics = s.intrinsics
    ∧ t.clock.b = s.clock.b ∧ t.lif.counters = s.lif.counters

/-- What a report or a refused item leaves of each channel: demand, staged and taken value, override, trip count and
cause, OPEN flag, and whether it is LATCHED, unless the channels still wait to be formed for a boundary (log 4). A
wake and a change of L_e at the instant compose the channel again. -/
def ChannelsKept (s t : State) : Prop :=
  s.clock.formDue = false → ∀ n, (t.chan n).map (fun c => (c.prof, c.demand, c.staged, c.taken, c.test, c.trips, c.cause, c.openFlag,
      decide (c.protection = .latched)))
    = (s.chan n).map (fun c => (c.prof, c.demand, c.staged, c.taken, c.test, c.trips, c.cause, c.openFlag,
      decide (c.protection = .latched)))

/-- The entry may be sent by state and kind (TABLE 51). -/
def Sendable (s : State) (e : Entry) : Prop :=
  e.inFlight = false
    ∧ (s.stc.state = .run ∨ s.stc.state = .sag
        ∨ s.stc.state = .configFault ∧ (e.body.kind = 12 ∨ e.body.kind = 24))

/-- In the queue `l`, made of `l₁`, `e` and `l₂`, the entry `e` is the one given up for a new FUNCTION or ALERT: the
newest WAITING entry of kind `k`, which is the first of SERVICE REPLY, STATUS and READING that waits (R152); it is
neither a parking STATUS nor a RESTART's reply. -/
def GivesUp (l : List Entry) (k : Nat) (l₁ : List Entry) (e : Entry) (l₂ : List Entry) : Prop :=
  l = l₁ ++ e :: l₂ ∧ e.waits k = true ∧ (∀ x ∈ l₂, x.waits k = false)
    ∧ (k = 24 ∨ k = 12 ∧ (∀ x ∈ l, x.waits 24 = false)
        ∨ k = 8 ∧ ∀ x ∈ l, x.waits 24 = false ∧ x.waits 12 = false)
    ∧ e.restart = false ∧ e.parkedStatus = false

/-! ## What the station reports of itself -/

/-- The lamp warning condition (R116): an own channel with its OPEN flag set or LATCHED; a LIVE peer whose last STATUS
shows either; the alert-seen flag. -/
def WarningHolds (s : State) : Prop :=
  (∃ e ∈ s.chans, e.2.openFlag = true ∨ e.2.protection = .latched)
    ∨ (∃ e ∈ s.peers, e.1 ≠ s.stc.own ∧ e.2.presence = .live
        ∧ ∃ x, e.2.status = some x ∧ (x.faults.getLsbD 0 = true ∨ x.faults.getLsbD 1 = true))
    ∨ s.alertSeen = true

/-- A STATUS body carries the figures of a state (R37, R170, TABLES 48 and 49), but for the beat field, which each
attempt writes (R64): state, PARKED while a parking is pending; L_c and the three bits; D_0 to D_3; the supply; the
fault summary bit by bit. -/
def StatusFigures (s : State) (x : StatusBody) : Prop :=
  (s.stc.state ≠ .start → x.state = (if s.stc.parkingPending = true then .parked else match s.stc.state with
      | .start => .run
      | .run => .run
      | .parked => .parked
      | .sag => .sag
      | .configFault => .configFault))
    ∧ x.lc.toNat = s.budget.lc % 4 ∧ x.charging = s.budget.charging ∧ x.overBudget = s.budget.overBudget
    ∧ x.learning = s.expected.learning
    ∧ x.d0.toNat = s.budget.d0 % 256 ∧ x.d1.toNat = s.budget.d1 % 256 ∧ x.d2.toNat = s.budget.d2 % 256
    ∧ x.d3.toNat = s.budget.d3 % 256 ∧ x.supply.toNat = s.itm.vs / 100 % 256
    ∧ (x.faults.getLsbD 0 = true ↔ ∃ e ∈ s.chans, e.2.openFlag = true)
    ∧ (x.faults.getLsbD 1 = true ↔ ∃ e ∈ s.chans, e.2.protection = .latched)
    ∧ x.faults.getLsbD 2 = s.flash.left.failed ∧ x.faults.getLsbD 3 = s.flash.right.failed
    ∧ (x.faults.getLsbD 4 = true ↔ ∃ e ∈ s.chans, e.2.prof.kind = .fan ∧ e.2.cause = some .stall
        ∧ (e.2.protection = .tripped ∨ e.2.protection = .latched))
    ∧ x.faults.getLsbD 5 = s.budget.overBudget
    ∧ (x.faults.getLsbD 6 = true ↔ ∃ e ∈ s.chans, e.2.underSupply = true)
    ∧ (x.faults.getLsbD 7 = true ↔ ∃ e ∈ s.itm.inputs, e.2.mode = .sender ∧ e.2.valid = false)

/-- A STATUS that this instant has made, and that waits, carries the figures of the state (R154). -/
def StatusCurrent (s : State) : Prop :=
  s.offered.statusMade = true → ∀ e ∈ s.txq.entries, e.inFlight = false → ∀ x, e.body = .status x → StatusFigures s x

/-- A STATUS of the state's own figures waits in its queue (R154, R170, R171). -/
def StatusWaits (t : State) : Prop :=
  ∃ x, StatusFigures t x ∧ { body := .status x, inFlight := false, attempts := 0, restart := false } ∈ t.txq.entries

/-- A query that wakes the station, or abandons a pending parking, has made a STATUS (R170, R171). -/
def WokenStatus (s t : State) : Prop :=
  s.stc.state = .parked ∨ s.stc.parkingPending = true → StatusWaits t

/-! ## Demands and totals (R129, R130) -/

/-- The underlying demand of a channel (TABLE 21, R48). -/
def underlyingIn (s : State) (c : Channel) : Nat :=
  match c.prof.kind with
  | .lamp => c.taken
  | .fan => c.taken
  | .gauge => c.taken
  | .flash => fullIf (s.flash.actOf c.prof.side)
  | .stopflash => fullIf (s.flash.actOf c.prof.side || decide (0 < s.takenOf .stop))
  | .telltale => if c.prof.side = .warn then c.taken else fullIf (s.flash.actOf c.prof.side)

/-- The own demand of a shed class: half the sum of the nominal currents of its channels with underlying demand, rounded
half up, at most 255 (R129). -/
def ownDemand (s : State) (k : Nat) : Nat :=
  min 255 ((((s.chans.filter (fun e => decide (e.2.prof.shedClass = k ∧ 0 < underlyingIn s e.2))).map
    (fun e => e.2.prof.nominal)).sum + 1) / 2)

/-- The demand of a class that the peers bring: of every other station that is LIVE or PARKED and has a last STATUS,
that STATUS's (R130). -/
def peerDemand (s : State) (k : Nat) : Nat :=
  ((s.peers.filter (fun e => decide (e.1 ≠ s.stc.own ∧ (e.2.presence = .live ∨ e.2.presence = .parked)))).map
    (fun e => match e.2.status with
      | some x => if k = 0 then x.d0 else if k = 1 then x.d1 else if k = 2 then x.d2 else x.d3
      | none => 0)).sum

/-- The car total T_k: own and peers' demands of the classes 0 to k (R130). -/
def carTotal (s : State) (k : Nat) : Nat :=
  ((List.range (k + 1)).map (fun c => ownDemand s c + peerDemand s c)).sum

/-! ## Findings and ALERTs of a boundary (R113, R114) -/

/-- The queue of a boundary from `s` to `t` was never full: it is not full after it, and held no READING that a newer
one could take out (R151). -/
def NeverFull (s t : State) : Prop := t.txq.entries.length < 8 ∧ ∀ e ∈ s.txq.entries, e.body.kind ≠ 8

/-- An ALERT waits. -/
def AlertWaits (t : State) (code : AlertCode) (subject : Nat) : Prop :=
  ∃ e ∈ t.txq.entries, e.inFlight = false ∧ e.body = .alert code (BitVec.ofNat 8 subject)

/-- The check at the end of this beat is an open check below a quarter of the nominal current that finds the OPEN flag
set, or sets it (R107, R112, R113). -/
def Channel.findsOut (c : Channel) : Prop :=
  c.protection = .normal ∧ c.normalSince = true ∧ c.window = none ∧ c.dutyHeld = true
    ∧ (if c.number = 0 then 0 else c.sum / c.number) < c.prof.nominal / 4 ∧ (c.openFlag = true ∨ 1 ≤ c.openCount)

/-- The next boundary finds the channel as it stands: nothing has composed the channel at the boundary's own instant
(log 25). -/
def State.FindsAsHeld (s : State) (c : Channel) : Prop :=
  s.clock.position < 20000 ∧ c.NotedBy s.clock.instant ∨ c.NotYetAt s.clock.instant

/-- A finding of the next boundary comes of an open check: without a stall window, of one below a quarter of the nominal
current that finds the OPEN flag set, or sets it (R112, R113). -/
def State.FindingOf (s : State) (c : Channel) : Prop := s.FindsAsHeld c → c.window = none → c.findsOut

/-- The LAMP OUT code of a side (TABLE 38). -/
def sideCode (sd : Side) : AlertCode := if sd = .right then .lampOutRight else .lampOutLeft

/-- The subject of a side's LAMP OUT (TABLE 38). -/
def sideSubject (sd : Side) : Nat := if sd = .right then 2 else 1

/-- TABLE 38 for a boundary from `s` to `t` and the side figures `sideAt` that its findings read: why an ALERT is
offered for a channel that was `c` and is `c'`. -/
def AlertReason (s : State) (sideAt : Side → SideFlash) (n : ChannelNo) (c c' : Channel) (code : AlertCode)
    (subject : Nat) : Prop :=
  code = .channelLatched ∧ subject = s.firstMap n ∧ c.protection ≠ .latched ∧ c'.protection = .latched
    ∨ code = .lampOutOther ∧ c.openFlag = false ∧ c'.openFlag = true
        ∧ (c.flashSide = none ∧ subject = s.firstMap n
            ∨ subject = 0 ∧ ∃ sd, c.flashSide = some sd ∧ (sideAt sd).act = false)
    ∨ c'.openFlag = true ∧ ∃ sd, c.flashSide = some sd ∧ code = sideCode sd ∧ subject = sideSubject sd
        ∧ (sideAt sd).act = true ∧ (sideAt sd).on = true ∧ s.FindingOf c

/-! ## The checks of a profile image (TABLE 58) -/

/-- Order 3: format 1, a length up to 2048, and every section that is marked as present found (R166). -/
def FormatHolds (i : ProfileImage) : Prop :=
  i.formatCode = 1 ∧ i.imageLength ≤ 2048 ∧ i.located = true
    ∧ ∀ p : Station, i.common.sections.getLsbD p.val = true → ∃ x, tableGet p i.sections = some x

/-- Order 5: the common section in its ranges, the nominal 6 or 12 with the charge threshold in its band (TABLE 59). -/
def CommonHolds (c : CommonSection) : Prop :=
  c.coded = true ∧ 1 ≤ c.aCharge ∧ c.aCharge ≤ 255 ∧ 1 ≤ c.aBattery ∧ c.aBattery ≤ 255 ∧ c.margin ≤ 50
    ∧ 3200 ≤ c.sagThreshold ∧ c.sagThreshold ≤ 12000 ∧ c.sagThreshold < c.chargeThreshold
    ∧ (c.nominal = 6 ∧ 4000 ≤ c.chargeThreshold ∧ c.chargeThreshold ≤ 9000
        ∨ c.nominal = 12 ∧ 8000 ≤ c.chargeThreshold ∧ c.chargeThreshold ≤ 16000)
    ∧ 50 ≤ c.parkDelay ∧ c.parkDelay ≤ 3000

/-- Order 6 for an origin entry: function and inputs in range, the inputs of the mode's kind, the values that the mode
carries in range (R2, TABLE 7). -/
def OriginHolds (sec : StationSection) (o : OriginProfile) : Prop :=
  1 ≤ o.function ∧ o.function ≤ 255 ∧ o.first ≤ 7
    ∧ (o.mode = .switch → switchModeAt sec o.first = true ∧ o.closedValue ≤ 255 ∧ o.openValue ≤ 255)
    ∧ (o.mode = .pair → switchModeAt sec o.first = true ∧ o.second ≤ 7 ∧ switchModeAt sec o.second = true
        ∧ o.first ≠ o.second ∧ o.comboOpenOpen ≤ 255 ∧ o.comboClosedOpen ≤ 255 ∧ o.comboOpenClosed ≤ 255
        ∧ o.comboClosedClosed ≤ 255)
    ∧ (o.mode = .analog → senderModeAt sec o.first = true ∧ o.offset ≤ 4095)

/-- Order 6 for a gauge: the fields of TABLE 29 in range, its source a sender of this section or of another one that is
present in the image (R88). -/
def GaugeHolds (own : Station) (i : ProfileImage) (sec : StationSection) (g : GaugePart) : Prop :=
  g.station ≤ 7 ∧ g.input ≤ 7 ∧ g.vZero ≤ 16000 ∧ g.vFull ≤ 16000 ∧ g.shift ≤ 7
    ∧ (∀ q ∈ g.curve, q.1 ≤ 4095 ∧ q.2 ≤ 1000)
    ∧ (g.station = own.val → senderModeAt sec g.input = true)
    ∧ (g.station ≠ own.val → i.common.sections.getLsbD g.station = true
        ∧ ∃ (p : Station) (x : StationSection), p.val = g.station ∧ tableGet p i.sections = some x
            ∧ senderModeAt x g.input = true)

/-- Order 6 for a channel record: number, kind, side, action and figures in range (R42, TABLE 19). -/
def ChannelHolds (own : Station) (i : ProfileImage) (sec : StationSection) (n : Nat) (c : ChannelProfile) : Prop :=
  n ≤ 11 ∧ 1 ≤ c.nominal ∧ c.nominal ≤ 255 ∧ c.shedClass ≤ 3
    ∧ (c.kind = .flash ∨ c.kind = .stopflash → c.side = .left ∨ c.side = .right)
    ∧ (∀ k, c.action = .cap k → (c.kind = .lamp ∨ c.kind = .fan) ∧ 1 ≤ k ∧ k ≤ 254)
    ∧ (c.kind = .lamp ∨ c.kind = .fan → 3000 ≤ c.rated ∧ c.rated ≤ 16000)
    ∧ (c.kind = .fan → 1 ≤ c.minRipple ∧ c.minRipple ≤ 255)
    ∧ (c.kind = .gauge → GaugeHolds own i sec c.gauge)

/-- Order 6: the station section (R2, R16, R42, R88). -/
def SectionHolds (own : Station) (i : ProfileImage) (sec : StationSection) : Prop :=
  sec.coded = true ∧ sec.origins.length ≤ 12 ∧ sec.maps.length ≤ 16
    ∧ (∀ o ∈ sec.origins, OriginHolds sec o)
    ∧ (∀ m ∈ sec.maps, 1 ≤ m.function ∧ m.function ≤ 255 ∧ m.channel ≤ 11 ∧ (∀ p, m.filter = some p → p ≤ 7)
        ∧ ∃ c, sectionChannel sec m.channel = some c ∧ (c.kind = .lamp ∨ c.kind = .fan))
    ∧ (sec.channels.map Prod.fst).Nodup
    ∧ (∀ e ∈ sec.channels, ChannelHolds own i sec e.1 e.2)
    ∧ (remoteSources own sec).length ≤ 4

/-- Order 7: every gauge's curve has 2 to 6 points of strictly ascending readings (R88). -/
def CurvesHold (sec : StationSection) : Prop :=
  ∀ e ∈ sec.channels, e.2.kind = .gauge → 2 ≤ e.2.gauge.curve.length ∧ e.2.gauge.curve.length ≤ 6
    ∧ e.2.gauge.curve.Pairwise (fun a b => a.1 < b.1)

/-- Order 8: distinct origin functions, map entries of one function that agree, and the fixed actions of the intrinsic
functions (R2, R10, R16). -/
def NoConflict (sec : StationSection) : Prop :=
  (sec.origins.map OriginProfile.function).Nodup
    ∧ ∀ m ∈ sec.maps, (∀ k ∈ sec.maps, k.function = m.function → k.action = m.action ∧ k.filter = m.filter)
        ∧ (1 ≤ m.function → m.function ≤ 3 → m.action = .off) ∧ (m.function = 4 ∨ m.function = 5 → m.action = .hold)

/-! ## What a whole boundary finds -/

/-- A stall window is at its last beat, with fewer ripple pulses than the minimum: its verdict trips (R124). -/
def Channel.stallsNext (c : Channel) : Bool :=
  c.window.any (fun w => decide (w.left ≤ 1) && decide (w.ripple < c.prof.minRipple))

/-- The next boundary brings a refresh (R6). -/
def RefreshFalls (s : State) : Prop :=
  (s.stc.state = .run ∨ s.stc.state = .sag) ∧ 31 ≤ s.origins.refreshCount

/-- FUNCTION pairs of the next boundary's instant may lose their places: it brings a refresh, or an earlier command of
its instant has offered some (R6, R152). -/
def PairsAtRisk (s : State) : Prop :=
  RefreshFalls s ∨ ¬ s.clock.position < 20000 ∧ ∃ q, Offer.pair q ∈ s.offered.offers

/-- The channel is not so near a trip count of 3, or an OPEN flag, that the next boundary offers an ALERT for it, also
where its own instant has composed the channel before (R104, R112, R113; log 25). -/
abbrev Channel.FarFromAlert (c : Channel) : Prop :=
  c.trips = 0 ∧ c.openCount = 0 ∧ c.openFlag = false ∧ (c.base.map DriveBase.openCount).getD 0 = 0

/-- Everything that the next boundary offers has its place: it is the first of its instant to offer anything, the
queue is empty, the present values make one bulletin that is sent and not kept to the own view, and no channel brings
an ALERT (R5, R9, R104, R112, R113). -/
def RoomForAll (s : State) : Prop :=
  NewInstant s ∧ s.txq.entries = [] ∧ s.lif.listenOnly = false ∧ s.origins.entries.length ≤ 6
    ∧ ∀ e ∈ s.chans, e.2.FarFromAlert

/-- An origin entry `o'` that was `o` before a refresh (R6). -/
def Refreshed (o o' : Origin) : Prop :=
  o'.prof = o.prof ∧ o'.present = o.present ∧ (o.present.isSome = true → o'.sent = o.present)
    ∧ (o.present = none → o' = o)

/-- The pairs of a refresh: those of the entries with a present value, in ascending function number (R6). -/
def PresentPairs (s : State) (pairs : List (Byte × Byte)) : Prop :=
  pairs.Pairwise (fun a b => a.1 < b.1)
    ∧ pairs.Perm ((s.origins.entries.filter (fun o => o.present.isSome)).map
        (fun o => (BitVec.ofNat 8 o.prof.function, BitVec.ofNat 8 (o.present.getD 0))))

/-- The READING set: each sender input's pair in ascending input number, six to a bulletin (R38). -/
def ReadingSet (s : State) : List Body :=
  let items := s.itm.inputs.filterMap (fun e => if e.2.mode = .sender then
    some { input := e.1, valid := e.2.valid, reading := BitVec.ofNat 12 e.2.reading : ReadingItem } else none)
  if items = [] then [] else if items.length ≤ 6 then [.reading items]
  else [.reading (items.take 6), .reading (items.drop 6)]

/-- IGNITION has become active between two states (R20). -/
abbrev IgnitionRises (s t : State) : Prop := s.takenOf .ignition = 0 ∧ 0 < t.takenOf .ignition

/-- An entry's source has become ABSENT between two states (R14). -/
def GoneSource (s t : State) (e : ViewEntry) : Prop :=
  ∃ p, e.source = some p ∧ (s.peer p).presence ≠ .absent ∧ (t.peer p).presence = .absent

/-- An entry goes STALE by its age: its source is neither this station nor PARKED (R13). -/
def AgeingSource (s : State) (e : ViewEntry) : Prop :=
  ∀ p, e.source = some p → p ≠ s.stc.own ∧ (s.peer p).presence ≠ .parked

/-- A boundary from `s` to `t` has formed the reference: IGNITION rose, a presence changed, or a status age came to 48
(R62, R160, R161). -/
def ReferenceFormed (s t : State) : Prop :=
  IgnitionRises s t ∨ (∃ p, (t.peer p).presence ≠ (s.peer p).presence)
    ∨ ∃ e ∈ t.peers, e.1 ≠ s.stc.own ∧ e.2.statusAge = 48

/-- The station is the lowest-numbered of the reference set: this station, and every LIVE one with a STATUS younger
than 48 beats (R62). Whether one that IGNITION has restarted since that STATUS is in it, of which R62 and R160 say
different things, is left open (DESIGN CHOICE, log 30). -/
def LowestOfTheSet (s : State) (r : Station) : Prop :=
  let belongs := fun q => q = s.stc.own
    ∨ (s.peer q).presence = .live ∧ (s.peer q).status.isSome = true ∧ (s.peer q).statusAge < 48
      ∧ ((s.peer q).restarted = false ∨ Config.restartedMayRefer = true)
  belongs r ∧ ∀ q : Station, q.val < r.val → ¬ belongs q

/-- The number that TABLE 60 gives a bit. -/
def flag (x : Bool) (k : Nat) : Nat := if x = true then 2 ^ k else 0

end Sys2Proof.Machine
end

