-- ==== Sys2Proof/Certificates/Slice0/Obligations.lean ====
section
/-! DEFINITION. The statements for the provers. Rule numbers in the docstrings name the rules of spec/ that a
statement rests on; a clause that is the model's own choice says so and names its log entry. -/

open Sys2Proof Sys2Proof.Machine

/-! ## Steps and resets -/

/-- The command at the front of the queue is the one a step runs, on the state with the queue's rest. -/
def Obligations.StepRunsTheFrontCommand : Prop :=
  ∀ (c : Instr) (rest : List Instr) (s : State), s.pending = c :: rest →
    step s = exec c { s with pending := rest }

/-- With no command waiting a step lets one microsecond pass (the model's choice, log 2): the beat, switch and pulse
timers, the idle gap of an IDLE line, once what is dominant on it is over, and the time since the captured start bit go
on, each to its limit; what the past instant left to steps of its own is over (log 4), and so are its offers (log 27);
nothing else changes. In START
the time of START goes on instead, and a part held in reset stays as it is. -/
def Obligations.EmptyQueueLetsTimePass : Prop :=
  (∀ s : State, s.pending = [] → s.timerRuns = true →
    step s = .next { s with
      clock := { s.clock with
        position := min 20000 (s.clock.position + 1), atBoundary := false, instant := s.clock.instant + 1, left := []
        formDue := false, validityLeft := [], settledLeft := []
        sinceSwitch := if s.stc.state = .configFault then s.clock.sinceSwitch else s.clock.sinceSwitch + 1
        sincePeriod := min 1000 (s.clock.sincePeriod + 1) }
      lif := { s.lif with
        recessive := if s.lif.line = .idle then min 550 (s.lif.recessive + (1 - s.lif.dominant)) else s.lif.recessive
        dominant := if s.lif.line = .idle then s.lif.dominant - 1 else s.lif.dominant
        capture := { s.lif.capture with elapsed := s.lif.capture.elapsed + 1 } }
      offered := { before := [], offers := [], statusMade := false } })
  ∧ (∀ s : State, s.pending = [] → s.starting = true →
    step s = .next { s with stc := { s.stc with sinceStart := s.stc.sinceStart + 1 } })
  ∧ ∀ s : State, s.pending = [] → s.held = true → step s = .next s

/-- RESET_END (R164, R172): the last hold ends, and every block has its reset values; the cause is the reset that
ended, the number what the straps read. The capture's zeros are the model's choice (log 21), and the record of an
instant's offers, empty here, is its own field (log 27). -/
def Obligations.ResetEndRestoresResetValues : Prop :=
  ∀ (cause : ResetCause) (straps : Station) (s : State),
    s.hold.stands cause = true → s.hold.clear cause = { powerOn := false, pin := false, service := false } →
    Answers (.resetEnd cause straps) s (fun t =>
      t.held = false
      ∧ t.stc = { state := .start, own := straps, cause := cause, fault := none, parkingPending := false,
                  quiet := 0, sagExit := 0, attempts := 0, sinceStart := 0 }
      ∧ t.common = none ∧ t.clock.b = 0
      ∧ t.sched.count = 0 ∧ t.sched.spacing = 0 ∧ t.sched.early = false ∧ t.sched.made = false
      ∧ t.flash.left = { act := false, fast := false, period := 32, on := false, failed := false, alertSent := false }
      ∧ t.flash.right = t.flash.left ∧ t.flash.fallback = false ∧ t.flash.settle = 0
      ∧ t.flash.reference = straps ∧ t.flash.pendingAlign = none
      ∧ (∀ f, tableGet f t.intrinsics = some { staged := none, taken := 0 })
      ∧ t.lif.line = .idle ∧ t.lif.listenOnly = false ∧ t.lif.dominant = 0
      ∧ t.lif.capture = { beat := 0, position := 0, boundaries := 0, elapsed := 0 }
      ∧ t.lif.counters = { check := 0, framing := 0, malformed := 0, unknownKind := 0, txBitErrors := 0,
                           txDropped := 0, txOverflow := 0, stuckEvents := 0 }
      ∧ t.txq = { entries := [], seq := 0 } ∧ t.offered = { before := [], offers := [], statusMade := false }
      ∧ (∀ p, tableGet p t.peers = some { presence := .unknown, age := 255, lastSeq := none, gaps := 0,
                                          status := none, statusAge := 255, restarted := false })
      ∧ t.expected = { members := [], learning := false }
      ∧ (∀ i, (t.input i).mode = .unused ∧ (t.input i).history = [] ∧ (t.input i).accepted = false
          ∧ (t.input i).settle = 0 ∧ (t.input i).ring = [] ∧ (t.input i).reading = 0 ∧ (t.input i).valid = false
          ∧ (t.input i).run = 0)
      ∧ t.itm.supplyRing = [] ∧ t.itm.vs = 0 ∧ t.itm.readingCount = 0
      ∧ t.origins = { entries := [], refreshCount := 0 }
      ∧ t.view.map ViewEntry.function = [1, 2, 3, 4, 5]
      ∧ (∀ e ∈ t.view, e.value = 0 ∧ e.source = none ∧ e.filter = none ∧ e.freshness = .never ∧ e.age = 0
          ∧ e.contention = 0 ∧ e.refused = 0 ∧ e.action = if e.function ≤ 3 then .off else .hold)
      ∧ t.maps = [] ∧ t.chans = [] ∧ t.cache = [] ∧ t.alertSeen = false
      ∧ t.budget = { d0 := 0, d1 := 0, d2 := 0, d3 := 0, charging := false, overBudget := false, lc := 0,
                     lowering := 0, le := 0 }
      ∧ t.pending = s.pending)

/-- POWER_ON_RESET and PIN_RESET hold the part: the line and every output terminal are released, and nothing else
changes before the reset ends; while another hold stands, the end of one ends nothing (R172). That nothing else
changes before the end is the model's choice (log 8). -/
def Obligations.ResetHoldsAndReleasesThePart : Prop :=
  (∀ (c : Instr) (s : State), c = .powerOnReset ∨ c = .pinReset → Answers c s (fun t =>
      t.held = true ∧ t.lif.line = .idle ∧ t.lif.frame = [] ∧ (∀ n, t.terminalDrive n = .released)
      ∧ t.stc = s.stc ∧ t.txq = s.txq ∧ t.offered = s.offered ∧ t.chans = s.chans ∧ t.lif.counters = s.lif.counters
      ∧ SameProfile s t ∧ SameInputs s t ∧ SamePeers s t ∧ SameBeat s t ∧ SameView s t ∧ t.pending = s.pending))
  ∧ ∀ (cause : ResetCause) (straps : Station) (s : State), s.hold.stands cause = true →
      s.hold.clear cause ≠ { powerOn := false, pin := false, service := false } →
      exec (.resetEnd cause straps) s = .next { s with hold := s.hold.clear cause }

/-- A part held in reset does nothing on any command but the resets and their end (R172); in START, where the beat
timer and the switch timer are stopped and the line is neither driven nor read, only the profile's commands and the
resets do anything (R60, R141, R165). That such a command changes nothing is the model's choice (log 3). -/
def Obligations.HeldAndStartingPartsIgnoreCommands : Prop :=
  ∀ (c : Instr) (s : State), isReset c = false →
    s.held = true ∨ s.stc.state = .start ∧ isProfile c = false → ChangesNothing c s

/-! ## START and the profile (R165, R166) -/

/-- A fault that is final: PROFILE_ATTEMPT_END with a fault of order 3 to 8, and PROFILE_TIMEOUT, end START in CONFIG
FAULT: the first fault code is kept, the beat timer starts, the first supply sample fills the ring, no profile is
loaded, the terminals stay released, and a STATUS carrying CONFIG FAULT is made, shown for an empty queue to which the
instant has offered nothing. A memory that does not answer, or a
wrong check, is tried up to three times: the first two failures leave the station in START with the first fault kept,
the third ends START in CONFIG FAULT (R36, R60, R165, R167). -/
def Obligations.ProfileFaultsAreTriedAgainOrEndStart : Prop :=
  (∀ (s : State) (c : Instr) (f : FaultCode) (supply : Nat), s.starting = true → s.txq.entries = [] → NothingOffered s →
    s.sched.made = false → s.stc.parkingPending = false →
    (c = .profileTimeout supply ∧ f = .noMemory
      ∨ s.profileLate = false ∧ f ≠ .badCheck ∧ f ≠ .noMemory
        ∧ ∃ i, c = .profileAttemptEnd (.image i) supply ∧ imageFault s.stc.own i = some f) →
    Answers c s (fun t =>
      t.stc.state = .configFault ∧ t.stc.fault = some (s.stc.fault.getD f) ∧ t.clock.b = 0 ∧ t.clock.position = 0
      ∧ t.itm.vs = min 20460 (supply / 20 * 20) ∧ t.itm.supplyRing = List.replicate 8 t.itm.vs
      ∧ t.itm.inputs = s.itm.inputs ∧ t.origins = s.origins ∧ t.view = s.view ∧ t.chans = s.chans
      ∧ SameProfile s t ∧ SamePeers s t ∧ (∀ n, t.terminalDrive n = .released)
      ∧ ∃ x, t.txq.entries = [{ body := .status x, inFlight := false, attempts := 0, restart := false }]
          ∧ x.state = .configFault))
  ∧ ∀ (s : State) (read : ProfileRead) (f : FaultCode) (supply : Nat), s.starting = true → s.profileLate = false →
    NoStatusDue s →
    (read = .noAnswer ∧ f = .noMemory ∨ f = .badCheck ∧ ∃ i, read = .image i ∧ imageFault s.stc.own i = some f) →
    Answers (.profileAttemptEnd read supply) s (fun t =>
      t.stc.fault = some (s.stc.fault.getD f) ∧ t.stc.attempts = s.stc.attempts + 1
      ∧ t.chans = s.chans ∧ t.common = s.common
      ∧ (if s.stc.attempts + 1 < 3 then t.stc.state = .start ∧ t.txq = s.txq ∧ t.itm = s.itm
         else t.stc.state = .configFault))

/-- PROFILE_ATTEMPT_END with an image that passes every check: the station enters RUN; modes, origin and map entries,
view with filters and stale actions, channel records, cache with its sources, and expected set are built from its
section, the beat timer starts at b = 0, the first supply sample is taken, every output terminal drives its off level,
and a STATUS carrying RUN is made, shown for an empty queue to which the instant has offered nothing; a fault code of an
earlier attempt is kept (R1, R2, R10, R22, R36, R41, R43, R88, R89,
R162, R165, R176). -/
def Obligations.AcceptedProfileEntersRun : Prop :=
  ∀ (s : State) (i : ProfileImage) (sec : StationSection) (supply : Nat), s.starting = true → s.profileLate = false →
    imageFault s.stc.own i = none → tableGet s.stc.own i.sections = some sec →
    s.txq.entries = [] → NothingOffered s → s.sched.made = false → s.stc.parkingPending = false →
    Answers (.profileAttemptEnd (.image i) supply) s (fun t =>
      t.stc.state = .run ∧ t.stc.fault = s.stc.fault ∧ t.common = some i.common ∧ t.maps = sec.maps
      ∧ t.clock.b = 0 ∧ t.clock.position = 0
      ∧ t.itm.vs = min 20460 (supply / 20 * 20) ∧ t.itm.supplyRing = List.replicate 8 t.itm.vs
      ∧ (∀ k x, tableGet k s.itm.inputs = some x →
          tableGet k t.itm.inputs = some { x with mode := (sec.modes[k.val]?).getD .unused })
      ∧ t.origins.entries.map Origin.prof = sec.origins
      ∧ (∀ o ∈ t.origins.entries, o.present = none ∧ o.sent = none)
      ∧ t.view.map ViewEntry.function = [1, 2, 3, 4, 5] ++ extraFunctions sec
      ∧ (∀ e ∈ t.view, e.freshness = .never ∧ e.value = 0 ∧ e.source = none
          ∧ (∀ m ∈ sec.maps, m.function = e.function → e.filter = m.filter ∧ e.action = m.action)
          ∧ ((∀ m ∈ sec.maps, m.function ≠ e.function) →
              e.filter = none ∧ e.action = if e.function ≤ 3 then .off else .hold))
      ∧ (∀ n, (t.chan n).isSome = (sectionChannel sec n.val).isSome)
      ∧ (∀ n c, t.chan n = some c → sectionChannel sec n.val = some c.prof ∧ c.applied = 0 ∧ c.composed = 0
          ∧ c.demand = 0 ∧ c.staged = none ∧ c.taken = 0 ∧ c.test = none ∧ c.target = 0 ∧ c.underSupply = false
          ∧ c.protection = .normal ∧ c.cause = none ∧ c.trips = 0 ∧ c.openFlag = false ∧ c.iOn = 0 ∧ c.d = 0 ∧ c.p = 0
          ∧ c.window = none)
      ∧ (∀ e ∈ t.cache, e.value = 0 ∧ e.valid = false ∧ e.age = 255)
      ∧ (∀ p k, (∃ e ∈ t.cache, e.station = p ∧ e.input = k) ↔ p ≠ s.stc.own.val
          ∧ ∃ e ∈ sec.channels, e.2.kind = .gauge ∧ e.2.gauge.station = p ∧ e.2.gauge.input = k)
      ∧ (t.cache.map (fun e => (e.station, e.input))).Nodup
      ∧ t.expected = (if i.common.expected = 0#8 then { members := [s.stc.own], learning := true }
                      else { members := allStations.filter (fun p => i.common.expected.getLsbD p.val),
                             learning := false })
      ∧ t.peers = s.peers
      ∧ (∀ n onTime, (t.terminalDrive n).level onTime =
          if i.common.polarity = .negative then .sinks else .sources)
      ∧ ∃ x, t.txq.entries = [{ body := .status x, inFlight := false, attempts := 0, restart := false }]
          ∧ x.state = .run ∧ StatusFigures t x)

/-- The checks of TABLE 58 from order 2 on, in their order: the first that fails gives its fault code, and an image that
passes them all is accepted. Order 2: the check of the image. Order 3: format 1, a length up to 2048, every section that
is marked. Order 4: the own section. Order 5: the common section. Order 6: the station section, each field in its range
and each input, channel and source of its mode or kind. Order 7: the curves. Order 8: distinct origin functions, map
entries of one function that agree, the fixed actions (R2, R10, R16, R42, R88, R166; TABLES 7, 19, 29, 58 and 59, as
CommonHolds, SectionHolds, CurvesHold and NoConflict spell them out). That a marked section which the image lacks is BAD
FORMAT is the model's choice, and that fields of named values hold the code of one is the reading's `coded` (log 9). -/
def Obligations.FirstFailedCheckGivesTheFault : Prop :=
  ∀ (own : Station) (i : ProfileImage),
    (imageCheckHolds i.bytes = false → imageFault own i = some .badCheck)
    ∧ (imageCheckHolds i.bytes = true → ¬ FormatHolds i → imageFault own i = some .badFormat)
    ∧ (imageCheckHolds i.bytes = true → FormatHolds i → i.common.sections.getLsbD own.val = false →
        imageFault own i = some .noSection)
    ∧ (imageCheckHolds i.bytes = true → FormatHolds i → i.common.sections.getLsbD own.val = true →
        (¬ CommonHolds i.common → imageFault own i = some .badValue)
        ∧ (CommonHolds i.common → ∃ sec, tableGet own i.sections = some sec
            ∧ (¬ SectionHolds own i sec → imageFault own i = some .badValue)
            ∧ (SectionHolds own i sec → ¬ CurvesHold sec → imageFault own i = some .badCurve)
            ∧ (SectionHolds own i sec → CurvesHold sec → ¬ NoConflict sec → imageFault own i = some .conflict)
            ∧ (SectionHolds own i sec → CurvesHold sec → NoConflict sec → imageFault own i = none)))

/-! ## The beat boundary -/

/-- BEAT_BOUNDARY forms the flash state of both sides, whatever else falls at it: activity from the taken values, rate
from side_failed and fallback, phase from b; the flags of an inactive side are cleared (R71, R72, R73, R76). That
fallback reads the presences as this boundary leaves them is the model's choice among the orders that R72 allows (log
6). -/
def Obligations.BoundaryFormsTheFlashState : Prop :=
  (∀ (order : BoundaryOrder) (s : State), s.timerRuns = true → Answers (.beatBoundary order) s (fun t =>
    t.flash.fallback = (decide (t.flash.settle = 250) && t.anyMissing)
    ∧ SideAfterBoundary (t.takenOf .indicateLeft) (t.takenOf .hazard) t.clock.b t.flash.fallback s.flash.left
        t.flash.left
    ∧ SideAfterBoundary (t.takenOf .indicateRight) (t.takenOf .hazard) t.clock.b t.flash.fallback s.flash.right
        t.flash.right))
  ∧ ∀ cause straps, (State.afterReset cause straps).flash.left.failed = false
      ∧ (State.afterReset cause straps).flash.left.alertSent = false
      ∧ (State.afterReset cause straps).flash.right.failed = false
      ∧ (State.afterReset cause straps).flash.right.alertSent = false

/-- BEAT_BOUNDARY without a pending alignment: b goes up by 1 and from 255 to 0, the next beat begins at position 0,
it has taken no samples, and a pulse period is due. With one, at a boundary that is no wrap or leaves it: the same,
and the record counts one boundary more; it is kept where no presence changes, IGNITION does not rise and no status
age comes to 48, and discarded where the reference has moved. At a wrap: b takes the projected count, the next
boundary falls p after this one (or 20 ms when p is 0), and the record is cleared; by BEAT_BOUNDARY, or, where that
left it, by PENDING_ALIGNMENT_APPLIED (R28, R57, R60, R62, R63, R69). `a.boundaries` counts the own boundaries since
the start bit before the boundary that applies it, or, at a step of its own, with it. That count, and the step of its
own, are the model's choice (logs 4 and 12); so is that a wrap applies the record also where a status age or a
presence moves the reference at that same boundary (log 26). -/
def Obligations.BoundaryMovesTheBeatTimer : Prop :=
  (∀ (order : BoundaryOrder) (s : State), s.timerRuns = true → s.flash.pendingAlign = none →
    Answers (.beatBoundary order) s (fun t =>
      t.clock.b = (s.clock.b + 1) % 256 ∧ t.clock.position = 0 ∧ t.clock.sampled = false
      ∧ t.clock.firstBeat = false ∧ t.clock.sincePeriod = 1000 ∧ t.pending = s.pending ∧ SameProfile s t))
  ∧ (∀ (order : BoundaryOrder) (s : State) (a : PendingAlign), s.timerRuns = true →
    s.flash.pendingAlign = some a →
    (s.clock.b + 1) % 32 ≠ 0 ∨ order.leave.contains .pendingAlignmentApplied = true →
    Answers (.beatBoundary order) s (fun t =>
      t.clock.b = (s.clock.b + 1) % 256 ∧ t.clock.position = 0 ∧ t.clock.sampled = false
      ∧ t.clock.firstBeat = false ∧ t.clock.sincePeriod = 1000
      ∧ (t.flash.reference ≠ s.flash.reference → t.flash.pendingAlign = none)
      ∧ (¬ ReferenceFormed s t → t.flash.reference = s.flash.reference
          ∧ t.flash.pendingAlign = some { a with boundaries := a.boundaries + 1 })))
  ∧ (∀ (order : BoundaryOrder) (s : State) (a : PendingAlign), s.timerRuns = true →
    s.flash.pendingAlign = some a → (s.clock.b + 1) % 32 = 0 → order.leave.contains .pendingAlignmentApplied = false →
    Answers (.beatBoundary order) s (fun t =>
      t.clock.b = (a.bRef + if 0 < a.position then a.boundaries else a.boundaries + 1) % 256
      ∧ t.clock.position = (if 0 < a.position then 20000 - a.position else 0) ∧ t.flash.pendingAlign = none))
  ∧ ∀ (s : State) (a : PendingAlign), s.leftOver .pendingAlignmentApplied = true → s.flash.pendingAlign = some a →
    s.clock.b % 32 = 0 →
    Answers .pendingAlignmentApplied s (fun t =>
      t.clock.b = (a.bRef + if 0 < a.position then a.boundaries - 1 else a.boundaries) % 256
      ∧ t.clock.position = (if 0 < a.position then 20000 - a.position else 0) ∧ t.flash.pendingAlign = none
      ∧ (t.flash.left.on = true ↔ s.flash.left.act = true
          ∧ t.clock.b % s.flash.left.period < s.flash.left.period / 2)
      ∧ (t.flash.right.on = true ↔ s.flash.right.act = true
          ∧ t.clock.b % s.flash.right.period < s.flash.right.period / 2)
      ∧ t.flash.settle = s.flash.settle ∧ t.intrinsics = s.intrinsics ∧ t.view = s.view ∧ SameProfile s t
      ∧ SamePeers s t ∧ SameInputs s t ∧ t.budget = s.budget)

/-- BEAT_BOUNDARY, taken whole, at a channel. A staged count falls by 1, and at 0 the value is taken; a demand that
changes here, by an entry going STALE or an own-origin update, is staged anew with count 1. LAMP and FAN take the
staged value; FLASH, STOPFLASH and TELLTALE take what the flash state formed here and STOP give, a GAUGE what IGNITION
gives, a WARN telltale the lamp warning. An override is absent where IGNITION becomes active here, or its count ends;
else its count falls by 1. The composed value follows by park, shed action and level (R13, R15, R18, R19, R45 to R47,
R49 to R53, R116). The count of 1 is the model's choice (log 24), and so are these orders (log 6): a value that is due
is taken before an entry goes STALE here; a WARN telltale, spoken of where findings are taken first, takes the
condition after the presences have aged, the trips and verdicts have latched channels, the checks have cleared OPEN
flags and IGNITION's rise has cleared alert-seen, and before a latch is released here. -/
def Obligations.BoundaryTakesStagedValues : Prop :=
  ∀ (order : BoundaryOrder) (s : State) (n : ChannelNo) (c : Channel), s.timerRuns = true → order.leave = [] →
    s.chan n = some c →
    Answers (.beatBoundary order) s (fun t => ∃ c', t.chan n = some c' ∧ c'.prof = c.prof
      ∧ (let staged := c.staged.bind (fun v => if v.left ≤ 1 then none else some { v with left := v.left - 1 })
         c'.demand = c.demand ∧ c'.staged = staged
         ∨ (c.prof.kind = .lamp ∨ c.prof.kind = .fan) ∧ (∃ m ∈ s.maps, m.channel = n.val)
           ∧ c'.demand = demandOf s.maps t.view n ∧ c'.staged = some { value := c'.demand, left := 1 })
      ∧ (match c.prof.kind with
         | .lamp => c'.taken = (match c.staged with
             | some v => if v.left ≤ 1 then v.value else c.taken
             | none => c.taken)
         | .fan => c'.taken = (match c.staged with
             | some v => if v.left ≤ 1 then v.value else c.taken
             | none => c.taken)
         | .flash => c'.taken = fullIf (t.flash.onOf c.prof.side)
         | .stopflash => c'.taken = (if t.flash.actOf c.prof.side = true then fullIf (t.flash.onOf c.prof.side)
                                     else fullIf (decide (0 < t.takenOf .stop)))
         | .telltale =>
           if c.prof.side = .warn then
             order.findingFirst = true → (WarningHolds t → c'.taken = 255)
               ∧ ((∀ e ∈ s.chans, e.2.protection ≠ .latched) → ¬ WarningHolds t → c'.taken = 0)
           else c'.taken = fullIf (t.flash.onOf c.prof.side)
         | .gauge => c'.taken = fullIf (!c.prof.ignitionFed || decide (0 < t.takenOf .ignition)))
      ∧ c'.test = (if s.takenOf .ignition = 0 ∧ 0 < t.takenOf .ignition then none
                   else c.test.bind (fun x => if x.left ≤ 1 then none else some { x with left := x.left - 1 }))
      ∧ c'.composed = composedOf t.budget.le (decide (t.stc.state = .parked)) c (testedValue c'.test c'.taken))

/-- BEAT_BOUNDARY, taken whole, at a channel that nothing has composed at its instant before. The target duty is
formed from the composed value, for a GAUGE from its displayed position, which follows its source but in SAG. A
channel that is driven applies its target, a FAN no more than 64 above what it had; a step from 0 enters BLANKING with
count 2 and clears the over-current and open counts; a channel that is not driven is at 0. A GAUGE's return from
TRIPPED or LATCHED is left out here (log 22). The new beat notes what it starts from (R56, R83, R96 to R100, R105,
R107, R112, R119, R120). That a gauge's source is classed by the presences as this boundary leaves them, those of PARKED
peers that IGNITION restarts among them, is the model's choice among the orders that R94 allows (log 6). -/
def Obligations.BoundaryFormsDuties : Prop :=
  ∀ (order : BoundaryOrder) (s : State) (n : ChannelNo) (c : Channel), s.timerRuns = true → order.leave = [] →
    s.chan n = some c → c.Sound →
    (s.clock.position < 20000 ∧ c.NotedBy s.clock.instant ∨ c.NotYetAt s.clock.instant) →
    Answers (.beatBoundary order) s (fun t => ∃ c', t.chan n = some c'
      ∧ (c.prof.kind ≠ .gauge → c'.target = targetOf s.itm.vs c c'.composed ∧ c'.p = c.p ∧ c'.d = c.d)
      ∧ (c.prof.kind = .gauge →
          let sag := if order.gaugeSagFirst = true then decide (t.stc.state = .sag) else decide (s.stc.state = .sag)
          let moved := ({ c with composed := c'.composed } : Channel).gaugeUpdate sag (t.sourceOf c.prof.gauge).1
            (t.sourceOf c.prof.gauge).2
          c'.p = moved.p ∧ c'.d = moved.d ∧ c'.target = gaugeTargetOf s.itm.vs c.prof.gauge c'.composed c'.d)
      ∧ (c'.driveable = false → c'.applied = 0)
      ∧ (c'.driveable = true → c.prof.kind ≠ .gauge ∨ c.driveable = true →
          c'.applied = (if c.prof.kind = .fan ∧ c.applied < c'.target then min c'.target (c.applied + 64)
                        else c'.target))
      ∧ (c.applied = 0 → 0 < c'.applied →
          c'.protection = .blanking ∧ c'.blanking = 2 ∧ c'.overcurrent = 0 ∧ c'.openCount = 0)
      ∧ (c'.normalSince = true ↔ c'.protection = .normal) ∧ (c'.dutyHeld = true ↔ 256 ≤ c'.applied))

/-- BEAT_BOUNDARY, taken whole, at a channel that nothing has composed at its instant before: I_on is the floor of the
mean. NORMAL for the whole beat: a second I_on above 2 I_n trips, else the NORMAL run goes up and at 250 clears trips
and cause; the open check counts, sets the flag at 2 and clears it, where the duty was held. BLANKING: a limit of 8
I_n up to 255, else the count falls and at 0 ends. TRIPPED: the wait falls and at 0 ends. LATCHED: the second boundary
without underlying demand releases. A step from 0 restarts the checks. An open window loses a beat, or closes with a
change of the target; its eighth beat gives the verdict: below the minimum ripple a STALL trip, from the trip count
and the OPEN flag as the check leaves them, or as they were where verdicts are given first; else it closes. Another
opens by its conditions (R102, R104, R105, R107 to R110, R112, R122 to R124). Which of check and verdict is first is
the command's, an order that R104 leaves to either (log 5). That the boundary of the latching counts is log 6; it has
no clause here. -/
def Obligations.BoundaryJudgesTheBeat : Prop :=
  ∀ (order : BoundaryOrder) (s : State) (n : ChannelNo) (c : Channel), s.timerRuns = true → order.leave = [] →
    s.chan n = some c → c.Sound →
    (s.clock.position < 20000 ∧ c.NotedBy s.clock.instant ∨ c.NotYetAt s.clock.instant) →
    Answers (.beatBoundary order) s (fun t => ∃ c', t.chan n = some c'
      ∧ (let steps := c.applied = 0 ∧ 0 < c'.applied
         let on := if c.number = 0 then 0 else c.sum / c.number
         let counted := if c.dutyHeld = true ∧ on < c.prof.nominal / 4 then min 2 (c.openCount + 1) else 0
         let checked := c.protection = .normal ∧ c.normalSince = true
         let flagged := if checked then counted = 2
             ∨ c.openFlag = true ∧ ¬ (c.dutyHeld = true ∧ c.prof.nominal / 4 ≤ on ∧ c.prof.nominal / 2 ≤ on)
           else c.openFlag = true
         let runAfter := if checked then min 250 (c.normalRun + 1) else c.normalRun
         let exceeds := if c.protection = .normal then c.normalSince = true ∧ 2 * c.prof.nominal < on ∧ 1 ≤ c.overcurrent
           else c.protection = .blanking ∧ min 255 (8 * c.prof.nominal) < on
         let tripped := c'.applied = 0 ∧ c'.cause = some .overcurrent ∧ c'.trips = min 3 (c.trips + 1)
           ∧ c'.protection = (if 3 ≤ c.trips + 1 then .latched else .tripped)
           ∧ (c.trips + 1 < 3 → c'.wait = 16) ∧ c'.normalRun = 0 ∧ c'.window = none ∧ c'.openFlag = c.openFlag
         let kept := c'.trips = (if c'.normalRun = 250 then 0 else c.trips)
           ∧ c'.cause = (if c'.normalRun = 250 then none else c.cause)
         let found := if order.stallFirst = false ∧ runAfter = 250 then 0 else c.trips
         c'.iOn = on ∧ c'.sum = 0 ∧ c'.number = 0
         ∧ (if c.driveable = true ∧ c.stallsNext = true ∧ (order.stallFirst = true ∨ ¬ exceeds) then
             c'.applied = 0 ∧ c'.cause = some .stall ∧ c'.trips = min 3 (found + 1)
             ∧ c'.protection = (if 3 ≤ found + 1 then .latched else .tripped)
             ∧ (found + 1 < 3 → c'.wait = 64) ∧ c'.normalRun = 0 ∧ c'.window = none
             ∧ (c.prof.kind = .fan → (c'.openFlag = true ↔ if order.stallFirst = true then c.openFlag = true else flagged))
            else match c.protection with
            | .normal =>
              if c.normalSince = false then
                c'.protection = (if steps then .blanking else .normal) ∧ c'.overcurrent = 0 ∧ c'.openCount = 0
                ∧ c'.normalRun = c.normalRun ∧ kept ∧ c'.openFlag = c.openFlag
              else if exceeds then tripped
              else
                c'.protection = (if steps then .blanking else .normal)
                ∧ c'.overcurrent = (if ¬ steps ∧ 2 * c.prof.nominal < on then 1 else 0)
                ∧ c'.normalRun = runAfter ∧ kept
                ∧ c'.openCount = (if steps then 0 else counted) ∧ (c'.openFlag = true ↔ flagged)
            | .blanking =>
              if exceeds then tripped
              else c'.overcurrent = 0 ∧ c'.openCount = 0 ∧ c'.normalRun = c.normalRun ∧ kept
                ∧ c'.openFlag = c.openFlag
                ∧ c'.protection = (if ¬ steps ∧ c.blanking ≤ 1 then .normal else .blanking)
                ∧ c'.blanking = (if steps then 2 else c.blanking - 1)
            | .tripped =>
              c'.normalRun = c.normalRun ∧ kept ∧ c'.openFlag = c.openFlag ∧ c'.wait = c.wait - 1
              ∧ c'.protection = (if 2 ≤ c.wait then .tripped else if 0 < c'.composed then .blanking else .normal)
              ∧ (c.wait ≤ 1 → 0 < c'.composed → c'.blanking = 2)
            | .latched =>
              if 0 < c'.underlying t.flash (t.takenOf .stop) then
                c'.protection = .latched ∧ c'.release = 0 ∧ c'.normalRun = c.normalRun ∧ kept
              else if c.release = 0 then
                c'.protection = .latched ∧ c'.release = 1 ∧ c'.normalRun = c.normalRun ∧ kept
              else c'.protection = (if 0 < c'.applied then .blanking else .normal) ∧ c'.release = 0 ∧ c'.trips = 0
                ∧ c'.cause = none)
         ∧ (c.driveable = true → c'.driveable = true →
             c'.window = (match c.window with
               | none => windowOpened c'
               | some w => if 2 ≤ w.left ∧ c'.target = c.target then some { w with left := w.left - 1 }
                           else windowOpened c'))))

/-- V_s below the sag threshold at a RUN boundary: SAG, with L_c at 3, both counts at 0, the quiet count at 0 and no
parking pending; where a parking was pending a STATUS carrying SAG waits, no ALERT, refresh or READING taking its place
(R135, R168, R170). No RESTART's reply waits, which a displacement at the boundary would carry out. -/
def Obligations.LowSupplyEntersSag : Prop :=
  ∀ (order : BoundaryOrder) (s : State) (com : CommonSection), s.held = false → s.stc.state = .run →
    s.common = some com → s.itm.vs < com.sagThreshold → (∀ e ∈ s.txq.entries, e.restart = false) →
    Answers (.beatBoundary order) s (fun t =>
      t.stc.state = .sag ∧ t.stc.sagExit = 0 ∧ t.stc.quiet = 0 ∧ t.stc.parkingPending = false
      ∧ t.budget.lc = 3 ∧ t.budget.lowering = 0
      ∧ (s.stc.parkingPending = true → s.txq.entries.length < 8 → ¬ RefreshFalls s → s.itm.readingCount < 15 →
          (∀ e ∈ s.chans, e.2.FarFromAlert) → StatusWaits t))

/-! ## Events that a boundary leaves to steps of their own -/

/-- STAGED_VALUE_TAKEN for a LAMP or FAN channel whose count has reached 0: the value is taken and the staged value is
absent; where nothing more of the boundary is due on the channel, the composed value is formed from it, or from an
override that stands, by park, shed action and level, and the target duty from that. TEST_OVERRIDE_EXPIRY: the override
is absent and the taken value stays; where nothing more is due, the composed value is formed again from the taken value
(R19, R44, R49 to R52, R83). Every other channel, profile, inputs, peers, beat timer, flash state, view and budget stay.
That the events are steps of their own, left by the command that brings them, is the model's choice (log 4). -/
def Obligations.StagedValuesAndOverridesEnd : Prop :=
  (∀ (s : State) (n : ChannelNo) (c : Channel) (v : Staged), s.leftOver .stagedValueTaken = true →
    s.chan n = some c → (c.prof.kind = .lamp ∨ c.prof.kind = .fan) → c.staged = some v → v.left = 0 →
    Answers (.stagedValueTaken (.channel n)) s (fun t =>
      OnlyChannels s t ∧ OtherChannels n s t
      ∧ ∃ c', t.chan n = some c' ∧ c'.taken = v.value ∧ c'.staged = none ∧ c'.prof = c.prof ∧ c'.test = c.test
          ∧ (if s.withheld { c with taken := v.value, staged := none } = true then
               c' = { c with taken := v.value, staged := none }
             else c'.composed = composedOf s.budget.le (decide (s.stc.state = .parked)) c (testedValue c.test v.value)
               ∧ c'.target = targetOf s.itm.vs c c'.composed)))
  ∧ ∀ (s : State) (n : ChannelNo) (c : Channel) (x : TestOverride), s.leftOver .testOverrideExpiry = true →
    s.chan n = some c → c.test = some x → x.left = 0 →
    Answers (.testOverrideExpiry n) s (fun t =>
      OnlyChannels s t ∧ OtherChannels n s t
      ∧ ∃ c', t.chan n = some c' ∧ c'.test = none ∧ c'.taken = c.taken ∧ c'.staged = c.staged
          ∧ (if s.withheld { c with test := none } = true then c' = { c with test := none }
             else c'.composed = composedOf s.budget.le (decide (s.stc.state = .parked)) c c.taken))

/-- BEAT_BOUNDARY, taken whole, at an intrinsic function: the count of a staged value falls by 1, and at 0 the value
becomes the taken value and nothing is staged; without a staged value the taken value stays. A resolved value that
this boundary changes, by an entry going STALE or an own-origin update, is staged anew after that, with count 1 (log
24); where it is the same, and no FUNCTION pairs of the instant may be lost or kept to the own view, nothing is.
IGNITION's rise clears alert-seen, which else stays (R13, R15, R19, R20, R115). A value that is due is taken before an
entry goes STALE here, the model's choice (log 6). STAGED_VALUE_TAKEN for an intrinsic function at the instant of the
boundary: the value is taken; IGNITION going from 0 to above 0 restarts parked peers with age 0, clears alert-seen and
cancels every override (R20, R53, R115, R160). That the event is a step of its own, left by the command that brings
it, is the model's choice (log 4), and the note of the restart is the model's own (log 30). -/
def Obligations.IntrinsicValueIsTaken : Prop :=
  (∀ (order : BoundaryOrder) (s : State) (f : Intrinsic) (x : IntrinsicValue), s.timerRuns = true → order.leave = [] →
    tableGet f s.intrinsics = some x →
    Answers (.beatBoundary order) s (fun t => ∃ y, tableGet f t.intrinsics = some y
      ∧ y.taken = (match x.staged with
          | some v => if v.left ≤ 1 then v.value else x.taken
          | none => x.taken)
      ∧ (let staged := x.staged.bind (fun v => if v.left ≤ 1 then none else some { v with left := v.left - 1 })
         let now := resolvedIn t.view (intrinsicNumber f)
         let same := now = resolvedIn s.view (intrinsicNumber f)
         (y.staged = staged ∨ y.staged = some { value := now, left := 1 })
         ∧ (¬ same → y.staged = some { value := now, left := 1 })
         ∧ (same → ¬ PairsAtRisk s → y.staged = staged))
      ∧ t.alertSeen = (s.alertSeen && !decide (IgnitionRises s t))))
  ∧ ∀ (s : State) (f : Intrinsic) (x : IntrinsicValue) (v : Staged), s.timerRuns = true → s.clock.position = 20000 →
    tableGet f s.intrinsics = some x → x.staged = some v → v.left ≤ 1 →
    Answers (.stagedValueTaken (.intrinsic f)) s (fun t =>
      tableGet f t.intrinsics = some { staged := none, taken := v.value }
      ∧ (∀ g, g ≠ f → tableGet g t.intrinsics = tableGet g s.intrinsics)
      ∧ t.clock = s.clock ∧ t.view = s.view ∧ SameProfile s t ∧ SameInputs s t ∧ t.pending = s.pending
      ∧ (if f = .ignition ∧ x.taken = 0 ∧ 0 < v.value then
          t.alertSeen = false ∧ (∀ n c, t.chan n = some c → c.test = none)
          ∧ (∀ p, (s.peer p).presence = .parked → (t.peer p).presence = .live ∧ (t.peer p).age = 0
                ∧ (t.peer p).status = (s.peer p).status ∧ (t.peer p).statusAge = (s.peer p).statusAge
                ∧ (t.peer p).restarted = true)
          ∧ (∀ p, (s.peer p).presence ≠ .parked → t.peer p = s.peer p)
        else t.alertSeen = s.alertSeen ∧ t.peers = s.peers))

/-- SHORT_TRIP on a reading that is still to trip, OVERCURRENT_TRIP, and STALL_VERDICT below the minimum ripple each
trip a NORMAL or BLANKING channel by the five steps of R104, with their own cause; nothing outside the channel, the
queue and Station Control changes, but for what FUNCTION pairs of the same instant bring that lose their places to an
ALERT and take the own-origin update (R8, R152). A verdict trips from the OPEN flag and the trip count that the check
of the same boundary, made before it, still leaves to set and to clear (R109 and R112 make both at the check: DEDUCED,
log 6; a whole boundary can give verdicts first, log 5). The third trip latches and offers ALERT 4, the first two
offer no ALERT but that of such a flag. A trip sets aside what it finds TRIPPED or LATCHED; SHORT_TRIP without such a
reading leaves the channel. A verdict at or above the minimum ripple trips nothing: the window is discarded, and where
nothing more of the boundary is due a new one stands exactly by R122's conditions (R56, R104, R106, R107, R109, R112,
R114, R120, R122, R124). That the event is a step of its own, left by the command that brings it, is the model's
choice (log 4). -/
def Obligations.TripsTakeTheFiveSteps : Prop :=
  (∀ (s : State) (n : ChannelNo) (c : Channel) (cause : TripCause) (i : Instr), s.chan n = some c →
    c.driveable = true →
    (cause = .short ∧ i = .shortTrip n ∧ s.works = true ∧ 0 < c.driven ∧ c.shortDue = true
      ∨ cause = .overcurrent ∧ i = .overcurrentTrip n ∧ s.leftOver .overcurrentTrip = true ∧ 2 ≤ c.overcurrent
      ∨ cause = .stall ∧ i = .stallVerdict n ∧ s.leftOver .stallVerdict = true ∧ c.prof.kind = .fan
        ∧ ∃ w, c.window = some w ∧ w.left = 0 ∧ w.ripple < c.prof.minRipple) →
    Answers i s (fun t =>
      let found : Channel := if cause = .stall then
          { c with openFlag := c.openFlag || decide (c.openCount = 2) || c.openLeft
                   trips := if c.normalRun = 250 then 0 else c.trips }
        else c
      (PairsKeepPlaces (if found.openFlag = c.openFlag then 1 else 2) s → OnlyChannels s t ∧ OtherChannels n s t)
      ∧ ButForLostPairs s t ∧ (∃ c', t.chan n = some c' ∧ TrippedFrom cause found c'
        ∧ (cause = .short → c'.composed = c.composed ∧ c'.target = c.target))
      ∧ (3 ≤ found.trips + 1 → s.txq.entries.length < (if found.openFlag = c.openFlag then 8 else 7) →
          ∃ e ∈ t.txq.entries, e.inFlight = false ∧ e.body = .alert .channelLatched (BitVec.ofNat 8 (s.firstMap n)))
      ∧ (found.trips + 1 < 3 → found.openFlag = c.openFlag →
          t.txq.entries.filter (fun e => e.body.kind == 1) = s.txq.entries.filter (fun e => e.body.kind == 1))))
  ∧ (∀ (s : State) (n : ChannelNo) (c : Channel), s.chan n = some c → c.driveable = false →
    (∀ cause, (s.trip n cause).chan n = some c)
    ∧ Answers (.shortTrip n) s (fun t => t.chan n = some c)
    ∧ Answers (.overcurrentTrip n) s (fun t => t.chan n = some c))
  ∧ (∀ (s : State) (n : ChannelNo) (c : Channel), s.chan n = some c → c.shortDue = false →
    Answers (.shortTrip n) s (fun t => t.chan n = some c))
  ∧ ∀ (s : State) (n : ChannelNo) (c : Channel) (w : StallWindow), s.leftOver .stallVerdict = true →
    s.chan n = some c → c.window = some w → w.left = 0 → c.prof.minRipple ≤ w.ripple → c.protection = .normal →
    c.NotYetAt s.clock.instant →
    Answers (.stallVerdict n) s (fun t =>
      OnlyChannels s t ∧ OtherChannels n s t
      ∧ ∃ c', t.chan n = some c' ∧ c'.driveable = true ∧ c'.trips = c.trips ∧ c'.cause = c.cause ∧ c'.taken = c.taken
          ∧ (if s.withheld { c with window := none } = true then c'.window = none ∧ c'.applied = c.applied
             else c'.window = windowOpened c'))

/-- BEAT_BOUNDARY, taken whole: an open check below a quarter of I_n that finds the OPEN flag set, or sets it, on a
FLASH or STOPFLASH channel marks its side failed where the side is on; a side is newly marked only where it is on and
such a channel has its flag set. With places in the queue the ALERTs of TABLE 38 wait: code 1 or 2 for such a check
while the side is active and on and has sent none, code 3 for a flag newly set, code 4 for a channel newly LATCHED;
and a new ALERT has one of these reasons. A channel composed at the boundary's own instant before it is spoken of for
codes 3 and 4 alone. Whether the side's figures are those of the beat ended or the new ones is the command's, an order
that R113 and R114 leave to either (log 5). OPEN_FLAG_SET, with the open count at 2 or the flag left at the check: the
flag is set; a side is marked exactly where it is on (or was marked before), and no other; the channel is not switched
off; the ALERT is that of TABLE 38, code 1 or 2 being noted; view, inputs, beat timer, intrinsic functions and the
other channels stay, but for what FUNCTION pairs of the same instant bring that lose their places to the ALERT (R8,
R74, R77, R112 to R114, R152). That the event is a step of its own, left by the command that brings it, is the model's
choice (log 4). -/
def Obligations.OpenFlagMarksTheSide : Prop :=
  (∀ (order : BoundaryOrder) (s : State), s.timerRuns = true → order.leave = [] →
    Answers (.beatBoundary order) s (fun t =>
      let sideAt := fun sd => if order.findingFirst = true then s.flash.side sd else t.flash.side sd
      (∀ n c c', s.chan n = some c → t.chan n = some c' →
        (∀ sd, c.flashSide = some sd → c.findsOut →
          s.FindsAsHeld c → (sideAt sd).on = true →
            c'.openFlag = true ∧ ((t.flash.side sd).act = true → (t.flash.side sd).failed = true)
            ∧ ((sideAt sd).act = true → (s.flash.side sd).alertSent = false → NeverFull s t →
                AlertWaits t (sideCode sd) (sideSubject sd)))
        ∧ (c.openFlag = false → c'.openFlag = true → NeverFull s t → match c.flashSide with
            | none => AlertWaits t .lampOutOther (s.firstMap n)
            | some sd => (sideAt sd).act = false → AlertWaits t .lampOutOther 0)
        ∧ (c.protection ≠ .latched → c'.protection = .latched → NeverFull s t →
            AlertWaits t .channelLatched (s.firstMap n)))
      ∧ (∀ sd, sd = .left ∨ sd = .right → (t.flash.side sd).failed = true → (s.flash.side sd).failed = true
          ∨ (sideAt sd).on = true ∧ ∃ n c c', s.chan n = some c ∧ t.chan n = some c' ∧ c.flashSide = some sd
              ∧ c'.openFlag = true ∧ s.FindingOf c)
      ∧ ∀ e ∈ t.txq.entries, e.body.kind = 1 → e ∈ s.txq.entries ∨ ∃ n c c' code subject, s.chan n = some c
          ∧ t.chan n = some c' ∧ e.body = .alert code (BitVec.ofNat 8 subject)
          ∧ AlertReason s sideAt n c c' code subject))
  ∧ ∀ (s : State) (n : ChannelNo) (c : Channel), s.leftOver .openFlagSet = true → s.chan n = some c →
    c.openCount = 2 ∨ c.openLeft = true → c.openFlag = false →
    Answers (.openFlagSet n) s (fun t =>
      (PairsKeepPlaces 1 s → OtherChannels n s t ∧ SameInputs s t ∧ SameView s t ∧ t.clock = s.clock
        ∧ t.intrinsics = s.intrinsics ∧ t.chan n = some { c with openFlag := true, openLeft := false })
      ∧ ButForLostPairs s t ∧ (∃ c', t.chan n = some c' ∧ c'.openFlag = true ∧ c'.openLeft = false ∧ c'.taken = c.taken
          ∧ c'.test = c.test ∧ c'.trips = c.trips ∧ c'.cause = c.cause)
      ∧ t.flash.left.failed = (s.flash.left.failed || (decide (c.flashSide = some .left) && s.flash.left.on))
      ∧ t.flash.right.failed = (s.flash.right.failed || (decide (c.flashSide = some .right) && s.flash.right.on))
      ∧ t.flash.left.alertSent = (s.flash.left.alertSent
          || (decide (c.flashSide = some .left) && s.flash.left.act && s.flash.left.on))
      ∧ t.flash.right.alertSent = (s.flash.right.alertSent
          || (decide (c.flashSide = some .right) && s.flash.right.act && s.flash.right.on))
      ∧ t.flash.left.act = s.flash.left.act ∧ t.flash.left.on = s.flash.left.on
      ∧ t.flash.right.act = s.flash.right.act ∧ t.flash.right.on = s.flash.right.on
      ∧ (let alert : Option (AlertCode × Byte) := match c.flashSide with
           | none => some (.lampOutOther, BitVec.ofNat 8 (s.firstMap n))
           | some sd =>
             let side := s.flash.side sd
             if side.act = false then some (.lampOutOther, 0#8)
             else if side.on = true ∧ side.alertSent = false then
               (if sd = .right then some (.lampOutRight, 2#8) else some (.lampOutLeft, 1#8))
             else none
         match alert with
         | some (code, subject) => s.txq.entries.length < 8 →
             ∃ e ∈ t.txq.entries, e.inFlight = false ∧ e.body = .alert code subject
         | none => t.txq.entries.filter (fun e => e.body.kind == 1)
             = s.txq.entries.filter (fun e => e.body.kind == 1)))

/-- BLANKING_END, with the blanking count at 0 and no trip found: the state becomes NORMAL; duty, trip count, cause,
OPEN flag and NORMAL run stay. TRIP_COUNT_CLEAR, at a NORMAL run of 250: the trip count becomes 0 and the cause
absent; all else of the channel stays, and below 250 all of it. RETRY_WAIT_END, with the wait at 0, and LATCH_RELEASE,
with the release count at 2, where nothing more of the boundary is due on the channel: after the wait, above composed
0 the channel is in BLANKING at the target duty, a FAN at the first step of a new ramp; at composed 0 it is NORMAL at
duty 0; trip count and cause are kept. A released channel is NORMAL, or BLANKING with count 2 where its duty steps up
from 0; the duty becomes the target, for a FAN the first step of a ramp; counts and cause clear (R56, R105, R108 to
R110, R119, R120). A GAUGE's duty at composed 0 is the model's choice (log 22); so is that the events are steps of
their own, left by the command that brings them (log 4). -/
def Obligations.ProtectionStatesEnd : Prop :=
  (∀ (s : State) (n : ChannelNo) (c : Channel), s.leftOver .blankingEnd = true → s.chan n = some c →
    c.protection = .blanking → c.blanking = 0 → c.overcurrent = 0 →
    Answers (.blankingEnd n) s (fun t =>
      OnlyChannels s t ∧ OtherChannels n s t
      ∧ ∃ c', t.chan n = some c' ∧ c'.protection = .normal ∧ c'.applied = c.applied ∧ c'.trips = c.trips
          ∧ c'.cause = c.cause ∧ c'.openFlag = c.openFlag ∧ c'.normalRun = c.normalRun))
  ∧ (∀ (s : State) (n : ChannelNo) (c : Channel), s.leftOver .tripCountClear = true → s.chan n = some c →
    Answers (.tripCountClear n) s (fun t =>
      OnlyChannels s t ∧ OtherChannels n s t
      ∧ t.chan n = some (if c.normalRun = 250 then { c with trips := 0, cause := none } else c)))
  ∧ (∀ (s : State) (n : ChannelNo) (c : Channel), s.leftOver .retryWaitEnd = true →
    s.chan n = some c → c.protection = .tripped → c.wait = 0 → s.withheld c = false →
    Answers (.retryWaitEnd n) s (fun t =>
      OnlyChannels s t ∧ OtherChannels n s t
      ∧ ∃ c', t.chan n = some c' ∧ c'.trips = c.trips ∧ c'.cause = c.cause ∧ c'.composed = c.composed
          ∧ (0 < c.composed → c'.protection = .blanking ∧ c'.blanking = 2
              ∧ c'.applied = if c.prof.kind = .fan then min c.target 64 else c.target)
          ∧ (c.composed = 0 → c'.protection = .normal ∧ c'.applied = 0)))
  ∧ ∀ (s : State) (n : ChannelNo) (c : Channel), s.leftOver .latchRelease = true →
    s.chan n = some c → c.protection = .latched → c.release = 2 → s.withheld c = false →
    Answers (.latchRelease n) s (fun t =>
      OnlyChannels s t ∧ OtherChannels n s t
      ∧ ∃ c', t.chan n = some c' ∧ c'.trips = 0 ∧ c'.cause = none ∧ c'.release = 0
          ∧ c'.applied = (if c.prof.kind = .fan then min c.target 64 else c.target)
          ∧ c'.protection = (if 0 < c'.applied then .blanking else .normal)
          ∧ (0 < c'.applied → c'.blanking = 2) ∧ c'.openFlag = c.openFlag ∧ c'.composed = c.composed)

/-- BEAT_BOUNDARY, taken whole, in RUN and SAG: the refresh count goes up by 1, and at 32 returns to 0 with a refresh;
in PARKED and CONFIG FAULT it stays, and a wake at the boundary returns it to 0. A refresh: every entry with a present
value sets what was last sent, and the present values are kept; an entry without one is as it was; no entry changes
without one. With room for all, the present pairs wait as one FUNCTION entry in ascending function number, and no
FUNCTION entry without a refresh. On a LISTEN-ONLY station each present pair takes the own-origin update at the
refresh, after the boundary's ageing, so that its age is 0: of the orders that R13 allows this is the model's choice
(log 6). REFRESH, left to a step of its own, is that refresh; with a queue that has a place for each origin entry
beside what stands in it, each present pair stands in a WAITING FUNCTION entry; on a LISTEN-ONLY station the pairs are
applied to the own view (R5, R6, R8, R151). That the event is a step of its own, left by the command that brings it,
is the model's choice (log 4). -/
def Obligations.RefreshOffersEveryPresentValue : Prop :=
  (∀ (order : BoundaryOrder) (s : State), s.timerRuns = true → order.leave = [] →
    Answers (.beatBoundary order) s (fun t =>
      t.origins.refreshCount = (if s.stc.state = .run ∨ s.stc.state = .sag then
            (if 31 ≤ s.origins.refreshCount then 0 else s.origins.refreshCount + 1)
          else if s.stc.state = .parked ∧ t.stc.state ≠ .parked then 0 else s.origins.refreshCount)
      ∧ (RefreshFalls s → List.Forall₂ Refreshed s.origins.entries t.origins.entries)
      ∧ (¬ RefreshFalls s → t.origins.entries = s.origins.entries)
      ∧ (RoomForAll s → (s.origins.entries.map (fun o => BitVec.ofNat 8 o.prof.function : Origin → Byte)).Nodup →
          ∃ pairs, PresentPairs s pairs ∧ t.txq.entries.filter (fun e => e.body.kind == 4) =
            (if s.stc.state ≠ .run ∧ s.stc.state ≠ .sag ∨ s.origins.refreshCount < 31 ∨ pairs = [] then []
             else [{ body := .function pairs, inFlight := false, attempts := 0, restart := false }]))
      ∧ (RefreshFalls s → s.lif.listenOnly = true →
          (s.origins.entries.map (fun o => BitVec.ofNat 8 o.prof.function : Origin → Byte)).Nodup →
          ∀ o ∈ s.origins.entries, ∀ v e, o.present = some v →
            s.view.find? (fun e => e.function == o.prof.function % 256) = some e →
            (e.filter = none ∨ e.filter = some s.stc.own.val) → ∃ k,
            t.view.find? (fun e => e.function == o.prof.function % 256) = some
              { e with value := v % 256, source := some s.stc.own, freshness := .fresh, age := 0, contention := k })))
  ∧ (∀ s : State, s.leftOver .refresh = true → s.origins.refreshCount = 32 → s.lif.listenOnly = true →
    (s.origins.entries.map (fun o => BitVec.ofNat 8 o.prof.function : Origin → Byte)).Nodup →
    Answers .refresh s (fun t => t.origins.refreshCount = 0
      ∧ List.Forall₂ Refreshed s.origins.entries t.origins.entries
      ∧ ∃ pairs, PresentPairs s pairs ∧ ViewHears s.stc.own pairs s t))
  ∧ ∀ s : State, s.leftOver .refresh = true → s.origins.refreshCount = 32 → s.lif.listenOnly = false →
    NoStatusDue s → (s.origins.entries.map (fun o => BitVec.ofNat 8 o.prof.function : Origin → Byte)).Nodup →
    s.txq.entries.length + s.origins.entries.length ≤ 8 →
    Answers .refresh s (fun t =>
      t.origins.refreshCount = 0 ∧ List.Forall₂ Refreshed s.origins.entries t.origins.entries
      ∧ (s.txq.entries = [] → s.origins.entries.length ≤ 6 → (∃ o ∈ s.origins.entries, o.present.isSome = true) →
          ∃ pairs, PresentPairs s pairs ∧
          t.txq.entries = [{ body := .function pairs, inFlight := false, attempts := 0, restart := false }])
      ∧ (∀ o ∈ s.origins.entries, ∀ v, o.present = some v → ∃ e ∈ t.txq.entries, e.inFlight = false
          ∧ ∃ pairs, e.body = .function pairs ∧ (BitVec.ofNat 8 o.prof.function, BitVec.ofNat 8 v) ∈ pairs)
      ∧ t.chans = s.chans ∧ t.itm = s.itm ∧ SameProfile s t ∧ SamePeers s t ∧ SameBeat s t ∧ SameView s t)

/-- BEAT_BOUNDARY, taken whole, in RUN and SAG, at a station with sender inputs: the reading count goes up by 1, and at
16 returns to 0 with a READING; elsewhere it stays, but for a wake, which returns it to 0 and lets the next sample fill
the rings. With room for all, the READING set waits where it is due, and else none. SCHEDULED_READING, left to a step of
its own: the count returns to 0, and with an empty queue the set waits. The set is each sender input's pair in ascending
input number, the six lowest in the first bulletin and the rest in a second (R30, R38, R39, R171). That the event is a
step of its own, left by the command that brings it, is the model's choice (log 4). -/
def Obligations.ScheduledReadingCarriesEverySender : Prop :=
  (∀ (order : BoundaryOrder) (s : State), s.timerRuns = true → order.leave = [] →
    Answers (.beatBoundary order) s (fun t =>
      let counts := (s.stc.state = .run ∨ s.stc.state = .sag) ∧ ∃ e ∈ s.itm.inputs, e.2.mode = .sender
      let wakes := s.stc.state = .parked ∧ t.stc.state ≠ .parked
      (counts → t.itm = { s.itm with readingCount := if 15 ≤ s.itm.readingCount then 0 else s.itm.readingCount + 1 })
      ∧ (¬ counts → ¬ wakes → t.itm = s.itm)
      ∧ (wakes → t.itm = { s.itm with readingCount := 0, refill := true })
      ∧ (RoomForAll s → (t.txq.entries.filter (fun e => e.body.kind == 8)).map Entry.body =
          if (s.stc.state = .run ∨ s.stc.state = .sag) ∧ 15 ≤ s.itm.readingCount then ReadingSet s else [])))
  ∧ ∀ s : State, s.leftOver .scheduledReading = true → s.itm.readingCount = 16 → NoStatusDue s →
    s.txq.entries = [] →
    Answers .scheduledReading s (fun t =>
      t.itm = { s.itm with readingCount := 0 } ∧ t.txq.entries.map Entry.body = ReadingSet s
      ∧ t.chans = s.chans ∧ t.origins = s.origins ∧ SameProfile s t ∧ SamePeers s t ∧ SameBeat s t ∧ SameView s t)

/-- BEAT_BOUNDARY, taken whole, in RUN, SAG and CONFIG FAULT: both counts go up by 1, the spacing count to 2; a change
of D_c, L_c, station state or fault summary sets the early request. A STATUS is made where the count reaches 16, one
is due already, a parking starts, or an early request stands and the spacing allows it; then the counts return to 0
and the request is clear. A station that stays PARKED counts nothing and makes none; one that wakes makes one. With
room for all, the STATUS of the values that stand after the boundary waits, or none. No parking is pending, no parking
STATUS is in the queue, no refresh loses a pair, and nothing has been offered at the instant before. Every step: a
STATUS that its instant has made, and that waits, carries the figures as they stand after each command of the instant;
and after BEAT_BOUNDARY at an instant whose earlier command has made the one STATUS that waits, no early request
stands and one STATUS waits, of the values after both. SCHEDULED_STATUS and EARLY_STATUS, left to steps of their own,
each make a STATUS from the values of the instant: a queue of fewer than 8 entries without a STATUS gains it, as its
newest where the instant has offered nothing else. What a STATUS carries is the figures of its instant, as TABLES 48
and 49 lay them out (R37, R151, R154, R170, R171). That the event is a step of its own, left by the command that
brings it, is the model's choice (log 4), and so is that a STATUS takes no change once it is IN FLIGHT (log 14). -/
def Obligations.StatusIsMadeFromThisInstant : Prop :=
  (∀ (order : BoundaryOrder) (s : State), s.timerRuns = true → order.leave = [] → s.stc.parkingPending = false →
    NewInstant s → (∀ e ∈ s.txq.entries, e.parkedStatus = false) → ¬ RefreshFalls s ∨ RoomForAll s →
    Answers (.beatBoundary order) s (fun t =>
      let early := s.sched.early = true ∨ t.budget.d0 ≠ s.budget.d0 ∨ t.budget.d1 ≠ s.budget.d1
        ∨ t.budget.d2 ≠ s.budget.d2 ∨ t.budget.d3 ≠ s.budget.d3 ∨ t.budget.lc ≠ s.budget.lc ∨ t.stc.state ≠ s.stc.state
        ∨ t.statusBody.faults ≠ s.statusBody.faults
      let made := if s.stc.state = .parked then s.sched.due = true ∨ t.stc.state ≠ .parked
        else s.sched.due = true ∨ 15 ≤ s.sched.count ∨ t.stc.parkingPending = true
          ∨ early ∧ (1 ≤ s.sched.spacing ∨ s.sched.made = false)
      (made → t.sched = { count := 0, spacing := 0, early := false, made := true, due := false })
      ∧ (¬ made → s.stc.state = .parked → t.sched = s.sched)
      ∧ (¬ made → s.stc.state ≠ .parked → t.sched.count = s.sched.count + 1
          ∧ t.sched.spacing = min 2 (s.sched.spacing + 1) ∧ (t.sched.early = true ↔ early)
          ∧ t.sched.made = s.sched.made ∧ t.sched.due = false)
      ∧ (RoomForAll s → (made → t.txq.entries.filter (fun e => e.body.kind == 12) =
            [{ body := .status t.statusBody, inFlight := false, attempts := 0, restart := false }])
          ∧ (¬ made → t.txq.entries.filter (fun e => e.body.kind == 12) = []))))
  ∧ (∀ s t : State, QueueInv s → StatusCurrent s → step s = .next t → StatusCurrent t)
  ∧ (∀ (order : BoundaryOrder) (s : State) (x : StatusBody), s.timerRuns = true → order.leave = [] →
    s.stc.parkingPending = false → 20000 ≤ s.clock.position → s.sched.early = false →
    s.txq.entries = [{ body := .status x, inFlight := false, attempts := 0, restart := false }] →
    s.offered = { before := [], offers := [.status x], statusMade := true } → s.origins.entries.length ≤ 6 →
    (∀ e ∈ s.chans, e.2.FarFromAlert) →
    Answers (.beatBoundary order) s (fun t => t.sched.early = false
      ∧ t.txq.entries.filter (fun e => e.body.kind == 12) =
          [{ body := .status t.statusBody, inFlight := false, attempts := 0, restart := false }]))
  ∧ (∀ s : State, StatusFigures s s.statusBody)
  ∧ ∀ (s : State) (c : Instr),
    (c = .scheduledStatus ∧ s.leftOver .scheduledStatus = true ∧ s.sched.count = 16
      ∨ c = .earlyStatus ∧ s.leftOver .earlyStatus = true ∧ s.sched.early = true ∧ s.stc.state ≠ .parked
        ∧ 2 ≤ s.sched.spacing) →
    s.txq.entries.length < 8 → (∀ e ∈ s.txq.entries, e.waits 12 = false) →
    Answers c s (fun t =>
      t.sched = { s.sched with count := 0, spacing := 0, early := false, made := true, due := false }
      ∧ (NothingOffered s → t.txq.entries = s.txq.entries ++ [{ body := .status s.statusBody, inFlight := false,
                                                                attempts := 0, restart := false }])
      ∧ { body := .status s.statusBody, inFlight := false, attempts := 0, restart := false } ∈ t.txq.entries
      ∧ t.txq.entries.filter (fun e => e.body.kind != 12) = s.txq.entries.filter (fun e => e.body.kind != 12)
      ∧ t.chans = s.chans ∧ SameInputs s t ∧ SameProfile s t ∧ SamePeers s t ∧ SameBeat s t ∧ SameView s t
      ∧ SameStation s t)

/-- A queue of 8 entries and an offer that needs a new place. A FUNCTION pair, shown by REFRESH, and an ALERT, shown
by OPEN_FLAG_SET, displace the newest WAITING entry of the kind given up, SERVICE REPLY first, then STATUS, then
READING; with none of these they are dropped, and a dropped FUNCTION pair takes its own-origin update. A STATUS takes
the place of the WAITING one and is else dropped; a READING set of one bulletin likewise, the other WAITING READINGs
leaving; a SERVICE REPLY is dropped. Each displacement and each drop adds 1 to tx overflow (R8, R151, R152). Each is
shown where the instant has offered nothing before. The entry that REFRESH displaces, and any entry where the tx
overflow of an ALERT is told, is no parking STATUS and no RESTART's reply: the loss of one brings a STATUS or a
restart with it (R170, R175). That the new entry stands as the newest is read from R152 (DEDUCED, log 13); that
REFRESH, OPEN_FLAG_SET, SCHEDULED_STATUS and SCHEDULED_READING are steps of their own is the model's choice (log 4).
-/
def Obligations.FullQueueGivesWayByKind : Prop :=
  (∀ (s : State) (o : Origin) (v : Nat), s.leftOver .refresh = true → s.origins.refreshCount = 32 →
    s.lif.listenOnly = false → NoStatusDue s → NothingOffered s → s.origins.entries = [o] → o.present = some v →
    s.txq.entries.length = 8 →
    (∀ e ∈ s.txq.entries, e.waits 4 = true → e.holds (BitVec.ofNat 8 o.prof.function) = false ∧ 6 ≤ e.pairs.length) →
    Answers .refresh s (fun t =>
      (∀ k l₁ l₂ e, GivesUp s.txq.entries k l₁ e l₂ → t.txq.entries = l₁ ++ l₂
          ++ [{ body := .function [(BitVec.ofNat 8 o.prof.function, BitVec.ofNat 8 v)], inFlight := false, attempts := 0
                restart := false }]
          ∧ t.lif.counters.txOverflow = min 255 (s.lif.counters.txOverflow + 1))
      ∧ ((∀ e ∈ s.txq.entries, e.waits 24 = false ∧ e.waits 12 = false ∧ e.waits 8 = false) →
          t.txq.entries = s.txq.entries
          ∧ (s.stc.parkingPending = false → s.stc.state ≠ .parked →
              t.lif.counters.txOverflow = min 255 (s.lif.counters.txOverflow + 1))
          ∧ ViewHears s.stc.own [(BitVec.ofNat 8 o.prof.function, BitVec.ofNat 8 v)] s t)))
  ∧ (∀ (s : State) (n : ChannelNo) (c : Channel), s.leftOver .openFlagSet = true → s.chan n = some c →
    c.openCount = 2 ∨ c.openLeft = true → c.openFlag = false → c.flashSide = none → s.txq.entries.length = 8 →
    BoundaryEvent.earlyStatus ∈ s.clock.left → s.sched.due = false → NothingOffered s →
    (∀ e ∈ s.txq.entries, e.body ≠ .alert .lampOutOther (BitVec.ofNat 8 (s.firstMap n))) →
    Answers (.openFlagSet n) s (fun t =>
      ((∀ e ∈ s.txq.entries, e.restart = false ∧ e.parkedStatus = false) →
        t.lif.counters.txOverflow = min 255 (s.lif.counters.txOverflow + 1))
      ∧ (∀ k l₁ l₂ e, GivesUp s.txq.entries k l₁ e l₂ → t.txq.entries = l₁ ++ l₂
          ++ [{ body := .alert .lampOutOther (BitVec.ofNat 8 (s.firstMap n)), inFlight := false, attempts := 0
                restart := false }])
      ∧ ((∀ e ∈ s.txq.entries, e.waits 24 = false ∧ e.waits 12 = false ∧ e.waits 8 = false) →
          t.txq.entries = s.txq.entries)))
  ∧ (∀ s : State, s.leftOver .scheduledStatus = true → s.sched.count = 16 → s.txq.entries.length = 8 → NothingOffered s →
    Answers .scheduledStatus s (fun t =>
      (∀ l₁ l₂ e, s.txq.entries = l₁ ++ e :: l₂ → e.waits 12 = true → (∀ x ∈ l₁, x.waits 12 = false) →
        t.txq.entries = l₁ ++ { body := .status s.statusBody, inFlight := false, attempts := 0, restart := false } :: l₂
        ∧ t.lif.counters = s.lif.counters)
      ∧ ((∀ x ∈ s.txq.entries, x.waits 12 = false) → t.txq.entries = s.txq.entries
          ∧ t.lif.counters.txOverflow = min 255 (s.lif.counters.txOverflow + 1))))
  ∧ (∀ (s : State) (body : Body), s.leftOver .scheduledReading = true → s.itm.readingCount = 16 → NoStatusDue s →
    s.txq.entries.length = 8 → NothingOffered s → readingBodies s.itm.inputs = [body] →
    Answers .scheduledReading s (fun t =>
      (∀ l₁ l₂ e, s.txq.entries = l₁ ++ e :: l₂ → e.waits 8 = true → (∀ x ∈ l₁, x.waits 8 = false) →
        t.txq.entries = l₁ ++ { body := body, inFlight := false, attempts := 0, restart := false }
          :: l₂.filter (fun x => !x.waits 8)
        ∧ t.lif.counters = s.lif.counters)
      ∧ ((∀ x ∈ s.txq.entries, x.waits 8 = false) → t.txq.entries = s.txq.entries
          ∧ t.lif.counters.txOverflow = min 255 (s.lif.counters.txOverflow + 1))))
  ∧ ∀ (s : State) (q : Query), s.canHear = true → q.sender ≠ s.stc.own → s.txq.entries.length = 8 → NothingOffered s →
    Answers (.lineCounters q) s (fun t =>
      t.txq.entries.filter (fun e => e.body.kind != 12) = s.txq.entries.filter (fun e => e.body.kind != 12)
      ∧ min 255 (s.lif.counters.txOverflow + 1) ≤ t.lif.counters.txOverflow)

/-- BEAT_BOUNDARY, taken whole, at the Function View: every entry that is not NEVER ages by 1 up to 255; a FRESH one
goes STALE at age 128, unless its source is this station or a PARKED one, and where its source becomes ABSENT here;
nothing else of the view changes, where no FUNCTION pair of the
instant can lose its place. That a source's PARKED presence is read before IGNITION
restarts it at the same boundary is the model's choice (log 6). VIEW_ENTRY_STALE, left to a step of its own: a FRESH
entry of age 128 or more, whose source is another station that is not PARKED, goes STALE with its value, source and age
kept, and resolves by its stale action; every other entry is as it was (R13, R14, R15). That the event is a step of its
own, left by the command that brings it, is the model's choice (log 4). -/
def Obligations.OldViewEntryGoesStale : Prop :=
  (∀ (order : BoundaryOrder) (s : State), s.timerRuns = true → order.leave = [] → ¬ PairsAtRisk s ∨ RoomForAll s →
    Answers (.beatBoundary order) s (fun t => List.Forall₂ (fun e e' : ViewEntry =>
        e' = { e with age := e'.age, freshness := e'.freshness }
        ∧ e'.age = (if e.freshness = .never then e.age else min 255 (e.age + 1))
        ∧ (let expires := e.freshness = .fresh ∧ (GoneSource s t e ∨ 128 ≤ e'.age ∧ AgeingSource s e)
           (expires → e'.freshness = .stale) ∧ (¬ expires → e'.freshness = e.freshness))) s.view t.view))
  ∧ ∀ (s : State) (f : Nat) (e : ViewEntry) (src : Station), s.leftOver .viewEntryStale = true →
    s.view.find? (fun x => x.function == f) = some e → e.freshness = .fresh → 128 ≤ e.age →
    e.source = some src → src ≠ s.stc.own → (s.peer src).presence ≠ .parked →
    Answers (.viewEntryStale f) s (fun t =>
      t.view.find? (fun x => x.function == f) = some { e with freshness := .stale }
      ∧ ({ e with freshness := .stale } : ViewEntry).resolved =
          (match e.action with | .hold => e.value | .off => 0 | .on => 255)
      ∧ (∀ g, g ≠ f → t.view.find? (fun x => x.function == g) = s.view.find? (fun x => x.function == g))
      ∧ SameProfile s t ∧ SamePeers s t ∧ SameTimer s t ∧ t.budget = s.budget ∧ t.alertSeen = s.alertSeen)

/-- BEAT_BOUNDARY, taken whole, at the Peer Table: every entry's age and status age go up by 1, up to 255. A LIVE
entry of another station goes STALE at age 48, a STALE one ABSENT at 250, its stored STATUS discarded and its status
age 255. Where IGNITION becomes active at the boundary a PARKED entry becomes LIVE, its age set to 0 after the ageing
or before it; which, is the command's, an order that R160 leaves to either (log 5). A restarted entry is noted as such,
the model's own note (log 30). Nothing else of an entry changes.
PEER_STALE at age 48, and PEER_ABSENT at age 250, left to steps of their own: the presence changes, the age stays; at
ABSENT the stored STATUS is discarded, its age becomes 255, and every FRESH view entry with that source goes STALE
(R14, R157, R159, R160, R161). That the event is a step of its own, left by the command that brings it, is the model's
choice (log 4). -/
def Obligations.SilentPeerIsGivenUp : Prop :=
  (∀ (order : BoundaryOrder) (s : State) (p : Station) (x : Peer), s.timerRuns = true → order.leave = [] →
    tableGet p s.peers = some x →
    Answers (.beatBoundary order) s (fun t => ∃ y, tableGet p t.peers = some y
      ∧ (let back := x.presence = .parked ∧ IgnitionRises s t
         let gone := p ≠ s.stc.own ∧ ¬ back ∧ (x.presence = .live ∨ x.presence = .stale) ∧ 250 ≤ y.age
         y.age = (if back then (if order.restartFirst = true then 1 else 0) else min 255 (x.age + 1))
         ∧ y.presence = (if back then .live else if gone then .absent
                         else if p ≠ s.stc.own ∧ x.presence = .live ∧ 48 ≤ y.age then .stale else x.presence)
         ∧ y.status = (if gone then none else x.status)
         ∧ y.statusAge = (if gone then 255 else min 255 (x.statusAge + 1))
         ∧ y.lastSeq = x.lastSeq ∧ y.gaps = x.gaps ∧ y.restarted = (decide back || x.restarted))))
  ∧ ∀ (s : State) (p : Station) (x : Peer), p ≠ s.stc.own → tableGet p s.peers = some x →
    (s.leftOver .peerStale = true → x.presence = .live → 48 ≤ x.age →
      Answers (.peerStale p) s (fun t =>
        tableGet p t.peers = some { x with presence := .stale }
        ∧ (∀ q, q ≠ p → tableGet q t.peers = tableGet q s.peers) ∧ t.view = s.view ∧ SameTimer s t))
    ∧ (s.leftOver .peerAbsent = true → x.presence = .stale → 250 ≤ x.age →
      Answers (.peerAbsent p) s (fun t =>
        tableGet p t.peers = some { x with presence := .absent, status := none, statusAge := 255 }
        ∧ (∀ q, q ≠ p → tableGet q t.peers = tableGet q s.peers)
        ∧ (∀ f e, s.view.find? (fun y => y.function == f) = some e → e.freshness = .fresh → e.source = some p →
            t.view.find? (fun y => y.function == f) = some { e with freshness := .stale })
        ∧ SameTimer s t))

/-- BEAT_BOUNDARY, taken whole: where a presence changes, IGNITION rises or a status age of another station comes to
48, the reference is the lowest-numbered station of the set as the boundary leaves it; else it stays.
STATUS_AGE_EXPIRY at a status age of 48, left to a step of its own: the reference is formed again as the
lowest-numbered station of the set, and a move of it discards the pending alignment; b and phase stay (R62, R63,
R159). Whether an entry that IGNITION has restarted is in the set before its next STATUS, of which R62 and R160 say
different things, the model leaves open (log 30). That the event is a step of its own, left by the command that brings
it, is the model's choice (log 4). -/
def Obligations.OldStatusLeavesTheReferenceSet : Prop :=
  (∀ (order : BoundaryOrder) (s : State), s.timerRuns = true → order.leave = [] →
    Answers (.beatBoundary order) s (fun t =>
      (ReferenceFormed s t → LowestOfTheSet t t.flash.reference)
      ∧ (¬ ReferenceFormed s t → t.flash.reference = s.flash.reference)))
  ∧ ∀ (s : State) (p : Station), s.leftOver .statusAgeExpiry = true → p ≠ s.stc.own → (s.peer p).statusAge = 48 →
    Answers (.statusAgeExpiry p) s (fun t =>
      t.flash.reference ≠ p ∧ LowestOfTheSet t t.flash.reference
      ∧ t.flash.pendingAlign = (if t.flash.reference = s.flash.reference then s.flash.pendingAlign else none)
      ∧ t.clock = s.clock ∧ t.peers = s.peers ∧ t.chans = s.chans ∧ t.view = s.view ∧ t.stc.own = s.stc.own)

/-- BEAT_BOUNDARY, taken whole. The settle count goes up by 1 in RUN, SAG and PARKED, up to 250, where the learning
window closes; in CONFIG FAULT count and window stay. In SAG, with no RESTART's reply in the queue, the exit count
goes up by 1 where V_s is at least the sag threshold and 300 mV, else it returns to 0; at 8 the station is back in RUN
with the count at 0. Left to steps of their own: SETTLE_COUNT_COMPLETE closes the learning window, and the set itself
stays. LEVEL_LOWERED: L_c falls by 1, the lowering count returns to 0, and L_e is formed from it. SAG_EXIT: RUN, with
the exit count at 0 and L_c as it stands (R72, R134, R135, R137, R162, R168). That the event is a step of its own,
left by the command that brings it, is the model's choice (log 4). -/
def Obligations.CountsRunOutAtTheirBoundary : Prop :=
  (∀ (order : BoundaryOrder) (s : State), s.timerRuns = true → order.leave = [] →
    Answers (.beatBoundary order) s (fun t =>
      (s.stc.state = .configFault → t.flash.settle = s.flash.settle ∧ t.expected = s.expected)
      ∧ (s.stc.state ≠ .configFault → t.flash.settle = min 250 (s.flash.settle + 1)
          ∧ t.expected = (if 249 ≤ s.flash.settle then { s.expected with learning := false } else s.expected))))
  ∧ (∀ (order : BoundaryOrder) (s : State) (com : CommonSection), s.works = true → order.leave = [] →
    s.common = some com → s.stc.state = .sag → (∀ e ∈ s.txq.entries, e.restart = false) →
    Answers (.beatBoundary order) s (fun t =>
      if com.sagThreshold + 300 ≤ s.itm.vs then
        (if 7 ≤ s.stc.sagExit then t.stc.state = .run ∧ t.stc.sagExit = 0
         else t.stc.state = .sag ∧ t.stc.sagExit = s.stc.sagExit + 1)
      else t.stc.state = .sag ∧ t.stc.sagExit = 0))
  ∧ (∀ s : State, s.leftOver .settleCountComplete = true → s.flash.settle = 250 →
    Answers .settleCountComplete s (fun t =>
      t.expected = { s.expected with learning := false } ∧ t.flash = s.flash ∧ t.chans = s.chans
      ∧ t.peers = s.peers ∧ t.budget = s.budget ∧ t.clock = s.clock ∧ t.view = s.view))
  ∧ (∀ s : State, s.leftOver .levelLowered = true → s.works = true → 64 ≤ s.budget.lowering →
    Answers .levelLowered s (fun t =>
      t.budget.lc = s.budget.lc - 1 ∧ t.budget.lowering = 0 ∧ t.budget.le = t.leOf
      ∧ t.budget.d0 = s.budget.d0 ∧ t.budget.d1 = s.budget.d1 ∧ t.budget.d2 = s.budget.d2
      ∧ t.budget.d3 = s.budget.d3 ∧ t.peers = s.peers ∧ SameTimer s t ∧ t.view = s.view ∧ t.flash = s.flash))
  ∧ ∀ s : State, s.leftOver .sagExit = true → s.stc.state = .sag → s.stc.sagExit = 8 →
    Answers .sagExit s (fun t =>
      t.stc.state = .run ∧ t.stc.sagExit = 0 ∧ t.budget = s.budget ∧ t.peers = s.peers ∧ t.clock = s.clock
      ∧ t.view = s.view ∧ t.chans = s.chans ∧ t.flash = s.flash)

/-- BEAT_BOUNDARY, taken whole, in RUN with no parking pending or queued, first of its instant to offer anything: the
quiet count goes up by 1, up to the park delay; it is 0 where a resolved value changes here, an override stands, or
the station enters SAG. With room for all, parking starts exactly where the count has reached the delay, IGNITION is
not active, no override stands, and every channel that is not park-permitted is at duty 0; a STATUS carrying PARKED
then waits. The model's choices among orders left open (log 6): the count advances before such a change; SAG is judged
before parking; the count and the start read overrides after their expiry at the boundary; the start reads the count as
the boundary has advanced it, the IGNITION value it has taken, the applied duties of its own drive and the queue with
the ALERTs of its trips and findings; and it is judged before the boundary's own refresh, READING and STATUS are
offered. PARKING_START, left to a step of its own where
every park condition holds: the flag is set and a STATUS carrying PARKED waits, with the station still in RUN (R168,
R169, R170). That the event is a step of its own, left by the command that brings it, is the model's choice (log 4).
-/
def Obligations.ParkingStartsWithAParkedStatus : Prop :=
  (∀ (order : BoundaryOrder) (s : State) (com : CommonSection), s.timerRuns = true → order.leave = [] →
    s.stc.state = .run → s.common = some com → s.stc.parkingPending = false →
    NewInstant s → (∀ e ∈ s.txq.entries, e.parkedStatus = false ∧ e.restart = false) → ¬ RefreshFalls s ∨ RoomForAll s →
    Answers (.beatBoundary order) s (fun t =>
      ((t.stc.state = .sag ∨ (∃ e ∈ s.view, resolvedIn t.view e.function ≠ resolvedIn s.view e.function)
          ∨ ∃ e ∈ t.chans, e.2.test.isSome = true) → t.stc.quiet = 0)
      ∧ (t.stc.state = .run → (∀ e ∈ s.view, resolvedIn t.view e.function = resolvedIn s.view e.function) →
          (∀ e ∈ t.chans, e.2.test = none) → t.stc.quiet = min com.parkDelay (s.stc.quiet + 1))
      ∧ (RoomForAll s → (t.stc.parkingPending = true ↔ t.stc.state = .run ∧ com.parkDelay ≤ t.stc.quiet
            ∧ t.takenOf .ignition = 0 ∧ ∀ e ∈ t.chans, e.2.test = none
              ∧ (e.2.prof.parkPermitted = false → e.2.applied = 0))
          ∧ (t.stc.parkingPending = true → ∃ e ∈ t.txq.entries, e.parkedStatus = true))))
  ∧ ∀ (s : State) (com : CommonSection), s.leftOver .parkingStart = true → s.common = some com → s.stc.state = .run →
    s.stc.parkingPending = false → com.parkDelay ≤ s.stc.quiet → s.takenOf .ignition = 0 →
    (∀ e ∈ s.chans, e.2.test = none ∧ (e.2.prof.parkPermitted = false → e.2.applied = 0)) → s.txq.entries = [] →
    Answers .parkingStart s (fun t =>
      t.stc = { s.stc with parkingPending := true }
      ∧ (∃ x, t.txq.entries = [{ body := .status x, inFlight := false, attempts := 0, restart := false }]
          ∧ x.state = .parked)
      ∧ t.chans = s.chans ∧ SameInputs s t ∧ SameProfile s t ∧ SamePeers s t ∧ SameBeat s t ∧ SameView s t)

/-! ## Sampling, settling, currents -/

/-- SAMPLE_POINT: the beat has taken its samples; but in the first beat the supply sample enters the ring of eight and
V_s is its mean; in RUN and SAG every sender input takes its sample; every other input stays, and all of them in
PARKED and CONFIG FAULT. Where a validity changes, one READING set of every sender input is made at once, shown for an
empty queue; where none does, no READING is, and the reading count stays (R28 to R31, R34, R36, R38, R40). That the
command first moves the clock to its instant is the model's choice (log 18); so is that, where the sample point leaves
its changes, an input whose run count comes to 4 keeps its validity until the SENDER_VALIDITY_CHANGE of the same
instant (log 4). -/
def Obligations.SamplePointTakesTheSamples : Prop :=
  ∀ (supply : Nat) (senders : List Nat) (leave : Bool) (s : State), s.sampleDue = true → senders.length = 8 →
    Answers (.samplePoint supply senders leave) s (fun t =>
      t.clock.sampled = true ∧ t.clock.position = min 20000 (max 10000 s.clock.position) ∧ t.clock.b = s.clock.b
      ∧ (if s.clock.firstBeat = true then t.itm.supplyRing = s.itm.supplyRing ∧ t.itm.vs = s.itm.vs
         else t.itm.supplyRing = lastOf 8 (s.itm.supplyRing ++ [min 20460 (supply / 20 * 20)])
              ∧ t.itm.vs = t.itm.supplyRing.sum / 8)
      ∧ (∀ i x, tableGet i s.itm.inputs = some x → ∃ y, tableGet i t.itm.inputs = some y
          ∧ (if x.mode = .sender ∧ (s.stc.state = .run ∨ s.stc.state = .sag) then
               SenderAfter s.itm.refill leave ((senders[i.val]?).getD 0) x y
             else y = x))
      ∧ t.itm.readingCount = s.itm.readingCount
      ∧ ((∃ i, (t.input i).valid ≠ (s.input i).valid) → s.txq.entries = [] → s.origins.entries.length ≤ 6 →
          (t.txq.entries.filter (fun e => e.body.kind == 8)).map Entry.body = ReadingSet t)
      ∧ ((∀ i, (t.input i).valid = (s.input i).valid) → s.txq.entries.length + s.origins.entries.length ≤ 8 →
          t.txq.entries.filter (fun e => e.body.kind == 8) = s.txq.entries.filter (fun e => e.body.kind == 8))
      ∧ SameProfile s t ∧ SamePeers s t ∧ t.flash = s.flash)

/-- SENDER_VALIDITY_CHANGE of an input that the sample point left, in RUN or SAG: with its run count at 4 the validity
changes and the run count returns to 0; every other input stays. While another such input is left no origin entry
changes and no READING is made (what the instant has offered has its places); with the last one READING set is made,
of all senders (it has its places: the queue is empty, of at most six origin entries). INPUT_SETTLED of an input that
the sampling instant left: no input changes, and while another is left nothing is formed or offered (R26, R31, R38,
R40). The clock only loses that input, and, where a wake forms the channels that wait for a boundary in progress, the
note that they wait (log 4). What the last of either hands to the Origin Table is OriginEntriesOfferTheirChanges. That
the events are steps of their own, left by the command that brings them, is the model's choice (log 4). -/
def Obligations.LeftSamplingEventsAreTaken : Prop :=
  (∀ (s : State) (i : InputNo) (x : Input), s.timerRuns = true → (s.stc.state = .run ∨ s.stc.state = .sag) →
    i ∈ s.clock.validityLeft → tableGet i s.itm.inputs = some x →
    Answers (.senderValidityChange i) s (fun t =>
      tableGet i t.itm.inputs = some (if x.mode = .sender ∧ 4 ≤ x.run then { x with valid := !x.valid, run := 0 } else x)
      ∧ (∀ j, j ≠ i → tableGet j t.itm.inputs = tableGet j s.itm.inputs)
      ∧ t.clock = { s.clock with validityLeft := s.clock.validityLeft.filter (fun j => j != i) }
      ∧ (t.clock.validityLeft ≠ [] → t.origins = s.origins
          ∧ (RepliesKeepPlaces s → t.txq.entries.filter (fun e => e.body.kind != 12)
              = s.txq.entries.filter (fun e => e.body.kind != 12)))
      ∧ (t.clock.validityLeft = [] → s.txq.entries = [] → s.origins.entries.length ≤ 6 →
          (t.txq.entries.filter (fun e => e.body.kind == 8)).map Entry.body = readingBodies t.itm.inputs)
      ∧ t.itm.vs = s.itm.vs ∧ SameProfile s t ∧ SamePeers s t))
  ∧ ∀ (s : State) (i : InputNo), s.works = true → i ∈ s.clock.settledLeft →
    Answers (.inputSettled i) s (fun t =>
      t.itm.inputs = s.itm.inputs ∧ t.itm.vs = s.itm.vs
      ∧ t.clock = { s.clock with settledLeft := s.clock.settledLeft.filter (fun j => j != i)
                                 formDue := t.clock.formDue }
      ∧ (s.clock.formDue = false → t.clock.formDue = false)
      ∧ (t.clock.settledLeft ≠ [] → NoStatusDue s → t.origins = s.origins ∧ t.txq = s.txq)
      ∧ SameProfile s t ∧ SamePeers s t)

/-- The origin entries that form their values at an instant, and the pairs of those that have changed.
SWITCH_SAMPLING_INSTANT: SWITCH and PAIR entries without a present value, or using an input whose accepted state
changed. SAMPLE_POINT in RUN and SAG: ANALOG entries, from the validities that stand after it. Where these left inputs
to steps of their own (log 4), the last INPUT_SETTLED and the last SENDER_VALIDITY_CHANGE do the same of all SWITCH
and PAIR, and of all ANALOG, entries. On a LISTEN-ONLY station the pairs take the own-origin update as they are
offered (R3 to R5, R7, R8, R26, R27, R32). How the pairs come to wait is said for an empty queue, and for one that
holds the pairs which an earlier command of the same instant has offered, and nothing else: the pairs of both stand in
one ascending order (R5, R151). -/
def Obligations.OriginEntriesOfferTheirChanges : Prop :=
  (∀ (s : State) (volts : List Nat), s.works = true →
    Answers (.switchSamplingInstant volts false) s (fun t =>
      OffersChanges (fun o => o.prof.mode ≠ .analog
        ∧ (o.present = none ∨ ∃ i : InputNo, originUses o.prof i.val = true
            ∧ (t.input i).accepted ≠ (s.input i).accepted)) s t))
  ∧ (∀ (s : State) (supply : Nat) (senders : List Nat), s.sampleDue = true →
    (s.stc.state = .run ∨ s.stc.state = .sag) →
    Answers (.samplePoint supply senders false) s (fun t => OffersChanges (fun o => o.prof.mode = .analog) s t))
  ∧ (∀ (s : State) (i : InputNo), s.works = true → i ∈ s.clock.settledLeft →
    (∀ j ∈ s.clock.settledLeft, j = i) →
    Answers (.inputSettled i) s (fun t => OffersChanges (fun o => o.prof.mode ≠ .analog) s t))
  ∧ ∀ (s : State) (i : InputNo), s.timerRuns = true → (s.stc.state = .run ∨ s.stc.state = .sag) →
    i ∈ s.clock.validityLeft → (∀ j ∈ s.clock.validityLeft, j = i) →
    Answers (.senderValidityChange i) s (fun t => OffersChanges (fun o => o.prof.mode = .analog) s t)

/-- SWITCH_SAMPLING_INSTANT: every switch input takes its sample against V_s, 5 ms after the last, or 20 ms in PARKED;
a changed accepted state restarts the quiet count, abandons a pending parking, and wakes a PARKED station; at a wake
or an abandonment a STATUS of the figures that stand is made at once, and waits where the queue has places (R23 to
R27, R154, R169 to R171). That the command first moves the clock to its instant is the model's choice (log 18). -/
def Obligations.SwitchesAreSampledTogether : Prop :=
  ∀ (volts : List Nat) (leave : Bool) (s : State), s.works = true → volts.length = 8 →
    Answers (.switchSamplingInstant volts leave) s (fun t =>
      t.clock.sinceSwitch = 0
      ∧ t.clock.position = min 20000 (s.clock.position
          + ((if s.stc.state = .parked then 20000 else 5000) - s.clock.sinceSwitch))
      ∧ (∀ i x, tableGet i s.itm.inputs = some x → ∃ y, tableGet i t.itm.inputs = some y
          ∧ (if x.mode = .switchToEarth ∨ x.mode = .switchToFeed then
               SwitchAfter s.itm.vs ((volts[i.val]?).getD 0) x y
             else y = x)
          ∧ (y.accepted ≠ x.accepted → t.stc.quiet = 0 ∧ t.stc.parkingPending = false ∧ t.stc.state ≠ .parked
              ∧ (s.txq.entries.length + s.origins.entries.length < 8 → WokenStatus s t)))
      ∧ t.itm.vs = s.itm.vs ∧ SameProfile s t ∧ SamePeers s t ∧ t.flash = s.flash)

/-- PULSE_PERIOD, within the beat: the applied duty of each channel takes effect; above 0 its one reading enters the
sum and number of the beat, and a reading of 255 trips a NORMAL or BLANKING channel with cause SHORT, at once or,
where that is left, as a SHORT_TRIP that adds no reading. RIPPLE_PULSE: the peak of a fan in its on-time follows a
rise; a fall by the larger of 1 and floor(I_n / 8) is a pulse for an open window. The terminal is on for duty / 1023
of the period, off at once where it trips; its on level sources for NEGATIVE and sinks for POSITIVE earth, its off
level is the opposite, and a terminal without a record is off. Budget, peers and inputs stay; so do the view and, but for
the reading and the trip, each channel, unless FUNCTION pairs of the same instant lose their places to the ALERTs of
trips: these take the own-origin update, which reaches view, stagers and a PARKED station (R8, R18, R57, R102, R106,
R121, R152, R171, R176). That the command first moves the clock to its instant, and that a trip can be left, is the
model's choice (logs 4 and 18). -/
def Obligations.CurrentsAreReadInTheOnTime : Prop :=
  (∀ (s : State) (senses : List Sense) (leaveShort : Bool) (n : ChannelNo) (c : Channel) (x : Sense), s.works = true →
    s.clock.position + (1000 - s.clock.sincePeriod) < 20000 → senses.length = 12 → s.chan n = some c →
    senses[n.val]? = some x →
    Answers (.pulsePeriod ⟨senses, leaveShort⟩) s (fun t =>
      t.clock.sincePeriod = 0 ∧ t.clock.position = s.clock.position + (1000 - s.clock.sincePeriod)
      ∧ SameProfile s t ∧ SamePeers s t ∧ t.flash = s.flash ∧ t.budget = s.budget ∧ t.alertSeen = s.alertSeen
      ∧ t.itm.inputs = s.itm.inputs ∧ t.itm.vs = s.itm.vs ∧ t.origins.entries = s.origins.entries
      ∧ (s.clock.sincePeriod < 1000 ∨ PairsKeepPlaces 12 s → SameInputs s t ∧ SameView s t)
      ∧ (∀ com, s.common = some com → t.works = true → ∀ m,
          let sources := fun (up : Bool) => if up = true then TerminalLevel.sources else .sinks
          let positive := decide (com.polarity = .positive)
          (t.terminalDrive m).level false = sources positive
          ∧ (s.chan m = none → (t.terminalDrive m).onShare = 0 ∧ (t.terminalDrive m).level true = sources positive)
          ∧ ∀ x, t.chan m = some x → (t.terminalDrive m).onShare = x.driven
              ∧ (0 < x.driven → (t.terminalDrive m).level true = sources (!positive)))
      ∧ ∃ c', t.chan n = some c'
          ∧ c'.sum = (if c.applied = 0 then c.sum else c.sum + min 255 x.reading)
          ∧ c'.number = (if c.applied = 0 then c.number else c.number + 1)
          ∧ c'.driven = (if leaveShort = false ∧ 255 ≤ x.reading ∧ c.driveable = true then 0 else c.applied)
          ∧ c'.shortDue = (leaveShort && decide (0 < c.applied) && decide (255 ≤ x.reading))
          ∧ (s.clock.sincePeriod < 1000 ∨ PairsKeepPlaces 12 s →
             if c.applied = 0 then c' = { c with driven := 0, dutyHeld := false, shortDue := false }
             else c'.composed = c.composed ∧ c'.target = c.target
               ∧ (if leaveShort = false ∧ 255 ≤ x.reading ∧ c.driveable = true then TrippedFrom .short c c'
                  else c'.applied = c.applied ∧ c'.protection = c.protection
                    ∧ c'.trips = c.trips ∧ c'.dutyHeld = (c.dutyHeld && decide (256 ≤ c.applied))
                    ∧ c'.peak = (if c.prof.kind = .fan then min 255 x.start else c.peak)))))
  ∧ ∀ (s : State) (n : ChannelNo) (c : Channel) (current : Nat), s.works = true → s.chan n = some c →
    c.prof.kind = .fan → c.driveable = true → 0 < c.driven →
    Answers (.ripplePulse n current) s (fun t =>
      OnlyChannels s t ∧ OtherChannels n s t ∧ SameLine s t ∧ SameStation s t
      ∧ ∃ c', t.chan n = some c' ∧ { c' with base := c.base } =
          (if c.peak ≤ min 255 current then { c with peak := min 255 current }
           else if c.peak - min 255 current < max 1 (c.prof.nominal / 8) then c
           else { c with peak := min 255 current
                         window := c.window.map (fun w => { w with ripple := min 255 (w.ripple + 1) }) }))

/-! ## The line as a sender meets it -/

/-- ATTEMPT: the oldest WAITING entry of the lowest kind code that the station may send goes IN FLIGHT; the idle gap
runs out first, from the end of what is dominant; the line state becomes TRANSMITTING, the start bit is captured, and
the frame carries the own number and sequence and, for a STATUS, the beat count of now. A LISTEN-ONLY or PARKED
station, or one without such an entry, makes no attempt (R64, R65, R141, R142, R144, R148, R150, R153). That the
command first moves the clock to its instant is the model's choice (log 18). -/
def Obligations.AttemptSendsTheLowestKind : Prop :=
  (∀ (s : State) (l₁ l₂ : List Entry) (e : Entry), s.timerRuns = true → s.lif.line = .idle →
    s.lif.listenOnly = false → s.txq.entries = l₁ ++ e :: l₂ → Sendable s e →
    (∀ x ∈ l₁, Sendable s x → e.body.kind < x.body.kind) → (∀ x ∈ l₂, Sendable s x → e.body.kind ≤ x.body.kind) →
    Answers .attempt s (fun t => ∃ body,
      (∀ x, e.body = .status x → body = .status { x with beat := BitVec.ofNat 8 s.clock.b })
      ∧ (e.body.kind ≠ 12 → body = e.body)
      ∧ t.txq = { s.txq with entries := l₁ ++ { e with inFlight := true, body := body } :: l₂ }
      ∧ t.lif.line = .transmitting
      ∧ t.clock.position = min 20000 (s.clock.position + (s.lif.dominant + (550 - s.lif.recessive)))
      ∧ t.lif.frame = ({ sender := s.stc.own, seq := BitVec.ofNat 4 s.txq.seq, body := body } : Bulletin).encode
      ∧ t.lif.capture = { beat := s.clock.b, position := t.clock.position, boundaries := 0, elapsed := 0 }
      ∧ t.lif.counters = s.lif.counters ∧ t.chans = s.chans ∧ t.stc = s.stc ∧ t.sched = s.sched
      ∧ SameProfile s t ∧ SameInputs s t ∧ SamePeers s t ∧ SameView s t ∧ t.flash = s.flash))
  ∧ ∀ s : State, s.lif.listenOnly = true ∨ s.stc.state = .parked ∨ (∀ x ∈ s.txq.entries, ¬ Sendable s x)
      ∨ s.lif.line ≠ .idle → ChangesNothing .attempt s

/-- LOST_ARBITRATION, and TRANSMIT_BIT_ERROR below the sixteenth: the station stops driving and receives; the entry
returns to WAITING, with one attempt more for an error and none for a loss; a FUNCTION takes over the values that wait
for its functions, and the other WAITING FUNCTION entries lose those pairs; an error adds 1 to tx bit errors (R144,
R145, R151). A STATUS beside which a newer one waits is left out here: it gives way (the model's reading of R150, log
20). -/
def Obligations.FailedAttemptsReturnToWaiting : Prop :=
  ∀ (s : State) (c : Instr) (l₁ l₂ : List Entry) (e : Entry) (k : Nat), s.attempting = true →
    s.txq.entries = l₁ ++ e :: l₂ → e.inFlight = true → (∀ x ∈ l₁ ++ l₂, x.inFlight = false) →
    (c = .lostArbitration ∧ k = e.attempts ∨ c = .transmitBitError ∧ e.attempts + 1 < 16 ∧ k = e.attempts + 1) →
    Answers c s (fun t =>
      t.lif.line = .receiving ∧ t.lif.frame = [] ∧ t.lif.capture = s.lif.capture ∧ t.txq.seq = s.txq.seq
      ∧ t.lif.counters = (if c = .lostArbitration then s.lif.counters
          else { s.lif.counters with txBitErrors := min 255 (s.lif.counters.txBitErrors + 1) })
      ∧ (e.body.kind ≠ 4 → (e.body.kind = 12 → ∀ x ∈ l₁ ++ l₂, x.body.kind ≠ 12) →
          t.txq.entries = l₁ ++ { e with inFlight := false, attempts := k } :: l₂)
      ∧ (∀ pairs, e.body = .function pairs →
          let others := fun (l : List Entry) => l.filterMap (Entry.withoutPairs (pairs.map Prod.fst))
          let waiting := (l₁ ++ l₂).filter (fun x => x.body.kind == 4)
          t.txq.entries = others l₁ ++ { e with inFlight := false, attempts := k,
                                                body := .function (pairs.map (newestValue waiting)) } :: others l₂)
      ∧ SameStation s t ∧ SameProfile s t ∧ SameInputs s t ∧ SamePeers s t ∧ SameBeat s t ∧ SameView s t
      ∧ t.chans = s.chans ∧ t.sched = s.sched)

/-- ATTEMPT_COMPLETE, and TRANSMIT_BIT_ERROR at the sixteenth: the entry leaves the queue, and nothing but STATUS
entries comes or goes beside it. Completion advances the own sequence modulo 16 and leaves the line IDLE; the error
counts in tx bit errors and tx dropped and leaves it RECEIVING. A FUNCTION's pairs take the own-origin update; a
RESTART's reply begins the SERVICE RESTART; any other entry but a parking STATUS changes nothing more (R8, R11, R145,
R172, R175). That a restart is a hold, under which peers, inputs and flash state stay until RESET_END, is the model's
reading (log 8). -/
def Obligations.LeavingEntriesTakeEffect : Prop :=
  ∀ (s : State) (c : Instr) (l₁ l₂ : List Entry) (e : Entry), s.attempting = true →
    s.txq.entries = l₁ ++ e :: l₂ → e.inFlight = true → (∀ x ∈ l₁, x.inFlight = false) →
    (c = .attemptComplete ∨ c = .transmitBitError ∧ 16 ≤ e.attempts + 1) →
    Answers c s (fun t =>
      (if c = .attemptComplete then
        t.txq.seq = (s.txq.seq + 1) % 16 ∧ t.lif.line = .idle
        ∧ t.lif.counters.txBitErrors = s.lif.counters.txBitErrors
        ∧ t.lif.counters.txDropped = s.lif.counters.txDropped
       else
        t.txq.seq = s.txq.seq ∧ (e.restart = false → t.lif.line = .receiving)
        ∧ t.lif.counters.txBitErrors = min 255 (s.lif.counters.txBitErrors + 1)
        ∧ t.lif.counters.txDropped = min 255 (s.lif.counters.txDropped + 1))
      ∧ t.txq.entries.filter (fun x => x.body.kind != 12) = (l₁ ++ l₂).filter (fun x => x.body.kind != 12)
      ∧ (e.body.kind ≠ 4 → e.parkedStatus = false → e.restart = false → NoStatusDue s →
          t.txq.entries = l₁ ++ l₂ ∧ SameStation s t ∧ t.chans = s.chans ∧ t.sched = s.sched ∧ SameView s t)
      ∧ (∀ pairs, e.body = .function pairs → (pairs.map Prod.fst).Nodup → ViewHears s.stc.own pairs s t)
      ∧ (e.restart = true → t.hold.service = true)
      ∧ SameProfile s t ∧ SamePeers s t ∧ t.itm.inputs = s.itm.inputs ∧ t.flash = s.flash)

/-- A parking STATUS leaves the queue of a station in RUN. Completed with the flag set and the queue then empty, it
takes the station to PARKED, where a channel that is not park-permitted composes 0 and no further STATUS is made.
Completed otherwise, or lost at the sixteenth error, it clears the flag, restarts the quiet count, and a STATUS
carrying RUN waits (R49, R170). That the flag clears as the station enters PARKED is the model's choice (log 31). -/
def Obligations.ParkingStatusParksTheStation : Prop :=
  ∀ (s : State) (c : Instr) (l₁ l₂ : List Entry) (e : Entry), s.attempting = true → s.stc.state = .run →
    s.txq.entries = l₁ ++ e :: l₂ → e.inFlight = true → (∀ x ∈ l₁, x.inFlight = false) → e.parkedStatus = true →
    e.restart = false → l₁.length + l₂.length < 8 → s.sched.due = false → s.clock.left = [] →
    (∀ x ∈ s.chans, x.2.changeDue = false) →
    (c = .attemptComplete ∨ c = .transmitBitError ∧ 16 ≤ e.attempts + 1) →
    Answers c s (fun t =>
      t.stc.parkingPending = false ∧ t.stc.quiet = 0
      ∧ (if c = .attemptComplete ∧ s.stc.parkingPending = true ∧ l₁ ++ l₂ = [] then
          t.stc.state = .parked ∧ t.stc.sagExit = 0 ∧ t.txq.entries = [] ∧ t.nextKind = none
          ∧ ∀ n x, t.chan n = some x → x.prof.parkPermitted = false → x.composed = 0
         else t.stc.state = .run
          ∧ ∃ x, x.state = .run ∧ { body := .status x, inFlight := false, attempts := 0, restart := false } ∈
              t.txq.entries)
      ∧ SameProfile s t ∧ SamePeers s t ∧ SameInputs s t ∧ SameView s t ∧ t.flash = s.flash)

/-- START_BIT_CAPTURE on an IDLE line: after an idle gap, RECEIVING, with own b and position captured; before one has
passed the edge begins no bulletin, and the wait for the next idle gap begins anew, from the end of the dominant time
that the edge begins (how long it lasts comes with the command, log 11). LINE_STUCK: STUCK, and one stuck
event more; in STUCK neither a start bit nor an attempt does anything. STUCK_RECOVERY: IDLE, the idle gap passed.
Nothing else changes (R65, R141, R149). -/
def Obligations.LineStateFollowsTheWire : Prop :=
  (∀ (s : State) (low : Nat), s.timerRuns = true → s.lif.line = .idle →
      exec (.startBitCapture low) s = .next { s with lif :=
        if 550 ≤ s.lif.recessive then
          { s.lif with
            line := .receiving, recessive := 0, dominant := 0, ownError := false
            capture := { beat := s.clock.b, position := s.clock.position, boundaries := 0, elapsed := 0 } }
        else { s.lif with recessive := 0, dominant := low } })
  ∧ (∀ s : State, s.timerRuns = true → s.lif.line = .idle ∨ s.lif.line = .receiving →
      exec .lineStuck s = .next { s with lif := { s.lif with
        line := .stuck, recessive := 0, dominant := 0, ownError := false
        counters := { s.lif.counters with stuckEvents := min 255 (s.lif.counters.stuckEvents + 1) } } })
  ∧ ∀ s : State, s.lif.line = .stuck →
      ChangesNothing .attempt s ∧ (∀ low, ChangesNothing (.startBitCapture low) s)
      ∧ (s.timerRuns = true →
          exec .stuckRecovery s = .next { s with lif := { s.lif with line := .idle, recessive := 550, dominant := 0 } })

/-! ## Frames that a station hears -/

/-- FRAME_DISCARDED: the line becomes IDLE and one receive counter goes up, the one of the first fault in TABLE 50's
order; none does for a frame that an own bit error left behind. A declared length above 12 is malformed at character
1; a frame cut short after a permitted one is a framing fault; a complete frame whose check differs is a check fault.
The time since the start bit is then that of the fault, 10 bit times to a character: two characters for a declared
length above 12, the middle of the stop bit for one read dominant, the end of the idle gap for a frame cut short, else
the end of the frame; and the wait for the next idle gap begins, after a stop bit read dominant from the end of what is
still dominant (R141, R145 to R147). That the command first moves the clock to its instant is the model's choice (log
18); how long the line is still dominant comes with the command (log 11). -/
def Obligations.DiscardedFrameIsCounted : Prop :=
  (∀ (s : State) (heard : Reception) (f : RxFault), s.canHear = true → judge heard = .fault f →
    Answers (.frameDiscarded heard) s (fun t =>
      t.lif.line = .idle ∧ t.lif.recessive = 0 ∧ t.lif.dominant = dominantAfter heard
      ∧ t.lif.capture.elapsed = (if s.lif.line = .receiving then max s.lif.capture.elapsed (discardTime heard)
                                 else discardTime heard)
      ∧ t.lif.counters = (if s.lif.line = .receiving ∧ s.lif.ownError = true then s.lif.counters else
          match f with
          | .check => { s.lif.counters with check := min 255 (s.lif.counters.check + 1) }
          | .framing => { s.lif.counters with framing := min 255 (s.lif.counters.framing + 1) }
          | .malformed => { s.lif.counters with malformed := min 255 (s.lif.counters.malformed + 1) }
          | .unknownKind => { s.lif.counters with unknownKind := min 255 (s.lif.counters.unknownKind + 1) })
      ∧ t.txq = s.txq ∧ t.chans = s.chans ∧ t.flash = s.flash ∧ t.sched = s.sched ∧ t.clock.b = s.clock.b
      ∧ SameStation s t ∧ SameProfile s t ∧ SameInputs s t ∧ SamePeers s t ∧ SameView s t))
  ∧ ∀ (c₀ c₁ : Byte) (rest : List Byte) (ending : Ending) (low : Nat),
      let heard : Reception := { chars := c₀ :: c₁ :: rest, ending := ending, dominant := low }
      (12 < c₁.toNat % 16 → judge heard = .fault .malformed ∧ discardTime heard = 1000 ∧ dominantAfter heard = 0)
      ∧ (c₁.toNat % 16 ≤ 12 → ending ≠ .complete → judge heard = .fault .framing)
      ∧ (c₁.toNat % 16 ≤ 12 → discardTime heard = 500 * (rest.length + 2)
            + (match ending with | .complete => 0 | .dominantStop => 475 | .idleGap => 550)
          ∧ dominantAfter heard = (match ending with | .complete => 0 | .dominantStop => low | .idleGap => 0))
      ∧ (∀ body check, c₁.toNat % 16 ≤ 12 → rest = body ++ [check] → body.length = c₁.toNat % 16 →
          check ≠ crc8 (c₀ :: c₁ :: body) → ending = .complete → judge heard = .fault .check)

/-- A valid bulletin of any kind from another station, SERVICE_REPLY_RECEIVED and SERVICE_QUERY_OTHER_TARGET among them:
its peer entry takes the gap, the sequence, a STATUS's record, the presence and age 0; no other entry changes; the
number joins a learning window's set; the reference and L_e are those of the table as it now stands, and the line is
IDLE (R62, R137, R146, R156 to R158, R162, R173). A STATUS ends the note that IGNITION has restarted the entry, which
is the model's own (log 30). -/
def Obligations.HeardBulletinReachesThePeerTable : Prop :=
  ∀ (c : Instr) (s : State) (p : Station) (seq : BitVec 4) (status : Option StatusBody) (x : Peer),
    HeardFrom s.stc.own p seq status c → p ≠ s.stc.own → s.canHear = true → tableGet p s.peers = some x →
    Answers c s (fun t =>
      tableGet p t.peers = some
        { presence := if status.map StatusBody.state = some .parked then .parked else .live
          age := 0
          lastSeq := some seq.toNat
          gaps := match x.lastSeq with
            | some l => if x.presence = .live ∨ x.presence = .parked then
                min 255 (x.gaps + (((seq.toNat : Int) - (l : Int) - 1) % 16).toNat) else x.gaps
            | none => x.gaps
          status := match status with
            | some b => some { state := b.state, lc := b.lc.toNat, d0 := b.d0.toNat, d1 := b.d1.toNat,
                               d2 := b.d2.toNat, d3 := b.d3.toNat, supply := b.supply.toNat, faults := b.faults }
            | none => x.status
          statusAge := if status.isSome = true then 0 else x.statusAge
          restarted := if status.isSome = true then false else x.restarted }
      ∧ (∀ q, q ≠ p → tableGet q t.peers = tableGet q s.peers)
      ∧ t.expected.learning = s.expected.learning
      ∧ (s.expected.learning = false → t.expected = s.expected)
      ∧ (s.expected.learning = true → p ∈ t.expected.members
          ∧ ∀ q, q ≠ p → (q ∈ t.expected.members ↔ q ∈ s.expected.members))
      ∧ t.flash.reference = t.referenceOf ∧ (s.works = true → t.budget.le = t.leOf)
      ∧ t.lif.line = .idle ∧ SameProfile s t)

/-- A valid bulletin with the station's own number: LISTEN-ONLY, no attempt any more, nothing of the bulletin
delivered. The entries stay in the queue, but for its STATUS and for replies of the same instant that a full queue
loses, and the pairs of its FUNCTION entries take the own-origin update; without FUNCTION entries view, intrinsic
functions, channels and station stay; with them every channel keeps its taken value, override, trips and flags, unless
the channels still wait to be formed for a boundary (log 4). A station that is LISTEN-ONLY already stays as it is (R9,
R148, R155). -/
def Obligations.OwnNumberMakesListenOnly : Prop :=
  ∀ (c : Instr) (s : State) (seq : BitVec 4) (status : Option StatusBody),
    HeardFrom s.stc.own s.stc.own seq status c → s.canHear = true →
    Answers c s (fun t =>
      t.lif.listenOnly = true ∧ t.lif.line = .idle ∧ t.nextKind = none ∧ SamePeers s t ∧ t.alertSeen = s.alertSeen
      ∧ t.flash = s.flash ∧ t.clock.b = s.clock.b ∧ t.itm.inputs = s.itm.inputs ∧ SameProfile s t
      ∧ t.origins.entries = s.origins.entries ∧ t.budget = s.budget
      ∧ (s.lif.listenOnly = true ∨ s.txq.entries.flatMap Entry.pairs = [] →
          t.view = s.view ∧ t.intrinsics = s.intrinsics ∧ t.chans = s.chans ∧ t.stc = s.stc
          ∧ (NoStatusDue s → t.txq = s.txq))
      ∧ (RepliesKeepPlaces s → ∀ e ∈ s.txq.entries, e.body.kind ≠ 12 → e ∈ t.txq.entries)
      ∧ (s.clock.formDue = false →
          ∀ n, (t.chan n).map (fun x => (x.prof, x.taken, x.test, x.trips, x.cause, x.openFlag))
          = (s.chan n).map (fun x => (x.prof, x.taken, x.test, x.trips, x.cause, x.openFlag)))
      ∧ (s.lif.listenOnly = false → ((s.txq.entries.flatMap Entry.pairs).map Prod.fst).Nodup →
          ViewHears s.stc.own (s.txq.entries.flatMap Entry.pairs) s t))

/-- FUNCTION_RECEIVED from another station: its pairs update the view, entry by entry; origin entries, inputs, cache
and beat count stay. A pair that changes a resolved value: an intrinsic function stages it, and a LAMP or FAN channel
that a map entry names takes its new demand, the largest of its entries' results, and stages it unless it is the
demand it had; with 1 boundary remaining before the latch point of the beat, 2 from it on, and 1 at the instant of a
boundary already taken (log 24). The quiet count restarts, a pending parking is abandoned, a PARKED station wakes; at a
wake or an abandonment a STATUS of the figures that stand is made at once, and waits where the queue has a place (R11,
R12, R15, R17, R18, R20, R154, R169 to R171). -/
def Obligations.ReceivedPairsUpdateTheView : Prop :=
  (∀ (s : State) (p : Station) (seq : BitVec 4) (pairs : List (Byte × Byte)), s.canHear = true → p ≠ s.stc.own →
    (pairs.map Prod.fst).Nodup →
    Answers (.functionReceived p seq pairs) s (fun t =>
      ViewHears p pairs s t ∧ t.origins.entries = s.origins.entries ∧ t.itm.inputs = s.itm.inputs
      ∧ t.cache = s.cache ∧ t.clock.b = s.clock.b ∧ t.alertSeen = s.alertSeen ∧ SameProfile s t))
  ∧ ∀ (s : State) (p : Station) (seq : BitVec 4) (f v : Byte) (e : ViewEntry), s.canHear = true → p ≠ s.stc.own →
    s.view.find? (fun x => x.function == f.toNat) = some e → (e.filter = none ∨ e.filter = some p.val) →
    v.toNat ≠ e.resolved →
    Answers (.functionReceived p seq [(f, v)]) s (fun t =>
      let left := if t.clock.atBoundary = true ∨ t.clock.position < 16000 then 1 else 2
      t.stc.quiet = 0 ∧ t.stc.parkingPending = false
      ∧ t.stc.state = (if s.stc.state = .parked then .run else s.stc.state)
      ∧ (s.txq.entries.length < 8 → WokenStatus s t)
      ∧ (∀ i x, tableGet i s.intrinsics = some x → tableGet i t.intrinsics = some
          (if intrinsicNumber i = f.toNat then { x with staged := some { value := v.toNat, left := left } } else x))
      ∧ ∀ n c, s.chan n = some c → ∃ c', t.chan n = some c' ∧ c'.taken = c.taken ∧ c'.prof = c.prof
          ∧ (if (c.prof.kind = .lamp ∨ c.prof.kind = .fan)
                ∧ (∃ m ∈ s.maps, m.channel = n.val ∧ m.function = f.toNat) then
               c'.demand = demandOf s.maps t.view n
               ∧ (∀ m, s.maps.filter (fun m => m.channel == n.val) = [m] → c'.demand =
                    match m.mode with | .direct => v.toNat | .switched => if 0 < v.toNat then 255 else 0)
               ∧ c'.staged = (if c'.demand = c.demand then c.staged else some { value := c'.demand, left := left })
             else c'.demand = c.demand ∧ c'.staged = c.staged))

/-- READING_RECEIVED from another station: each cache entry of it that the bulletin carries takes value and validity,
with age 0; every other entry stays. ALERT_RECEIVED: codes 1 and 2 mark their side failed and set alert-seen while it
is active, and do nothing while it is not; codes 3 and 4 set alert-seen alone (R75, R90, R115). -/
def Obligations.ReadingsAndAlertsReachTheirHolders : Prop :=
  (∀ (s : State) (p : Station) (seq : BitVec 4) (items : List ReadingItem), s.canHear = true → p ≠ s.stc.own →
    (items.map ReadingItem.input).Nodup →
    Answers (.readingReceived p seq items) s (fun t =>
      t.cache = s.cache.map (fun e =>
        match items.find? (fun r => decide (e.station = p.val) && decide (e.input = r.input.val)) with
        | some r => { e with value := r.reading.toNat, valid := r.valid, age := 0 }
        | none => e)
      ∧ t.view = s.view ∧ t.alertSeen = s.alertSeen ∧ t.itm = s.itm ∧ t.clock.b = s.clock.b ∧ SameProfile s t))
  ∧ ∀ (s : State) (p : Station) (seq : BitVec 4) (code : AlertCode) (subject : Byte), s.canHear = true →
    p ≠ s.stc.own →
    Answers (.alertReceived p seq code subject) s (fun t =>
      t.flash.left = { s.flash.left with
        failed := s.flash.left.failed || (decide (code = .lampOutLeft) && s.flash.left.act) }
      ∧ t.flash.right = { s.flash.right with
        failed := s.flash.right.failed || (decide (code = .lampOutRight) && s.flash.right.act) }
      ∧ t.alertSeen = (s.alertSeen || match code with
          | .lampOutLeft => s.flash.left.act
          | .lampOutRight => s.flash.right.act
          | .lampOutOther => true
          | .channelLatched => true)
      ∧ t.view = s.view ∧ t.cache = s.cache ∧ t.itm = s.itm ∧ t.clock.b = s.clock.b ∧ SameProfile s t)

/-- STATUS_RECEIVED from the reference as it stands once the STATUS is stored: with no active side, or no flashing
channel, b takes the beat field and the captured start bit becomes the start of the beat; otherwise the pending
alignment records reference, beat field, the capture's beat, and the start bit's position on the beats as they now run
with the boundaries since it: those of the capture, unless an older record was applied since (log 26). From any other
station b stays, and so does a pending alignment unless the reference has moved (R63, R66, R67, R68). The capture's
elapsed time is the model's own figure (logs 12 and 18). -/
def Obligations.ReferenceStatusAligns : Prop :=
  ∀ (s : State) (p : Station) (seq : BitVec 4) (x : StatusBody), s.canHear = true → p ≠ s.stc.own →
    Answers (.statusReceived p seq x) s (fun t => 5500 ≤ t.lif.capture.elapsed
      ∧ (s.lif.line = .receiving → t.lif.capture.beat = s.lif.capture.beat
          ∧ t.lif.capture.position = s.lif.capture.position ∧ t.lif.capture.boundaries = s.lif.capture.boundaries)
      ∧ (if p = t.flash.reference then
          (if s.flash.left.act = false ∧ s.flash.right.act = false ∨ (∀ e ∈ s.chans, e.2.switched = false) then
            t.clock.b = x.beat.toNat ∧ t.clock.position = t.lif.capture.elapsed ∧ t.flash.pendingAlign = none
           else t.clock.b = s.clock.b ∧ ∃ a, t.flash.pendingAlign = some a
             ∧ a.reference = p ∧ a.bRef = x.beat.toNat ∧ a.beat = t.lif.capture.beat ∧ a.position < 20000
             ∧ a.position + t.lif.capture.elapsed = 20000 * a.boundaries + t.clock.position
             ∧ (t.lif.capture.position < 20000 →
                 t.lif.capture.position + t.lif.capture.elapsed = 20000 * t.lif.capture.boundaries + t.clock.position →
                 a.position = t.lif.capture.position ∧ a.boundaries = t.lif.capture.boundaries))
         else t.clock.b = s.clock.b ∧ t.flash.pendingAlign =
           (if t.flash.reference = s.flash.reference then s.flash.pendingAlign else none))
      ∧ t.flash.left = s.flash.left ∧ t.flash.right = s.flash.right ∧ t.view = s.view ∧ t.intrinsics = s.intrinsics
      ∧ t.itm = s.itm ∧ t.alertSeen = s.alertSeen ∧ SameProfile s t)

/-! ## Service queries -/

/-- STATION REPORT, CHANNEL REPORT, PEER REPORT and LINE COUNTERS each answer DONE with the data of TABLE 60, read as
the state stands after the query's own instant, the Peer Table having heard the querier, and change nothing but what
hearing and waking change; where the query wakes the station or abandons a parking a STATUS waits (R59, R116, R147,
R155, R163, R167, R170, R171, R173, R174). That the data are read after the hearing, so that LAMP WARNING counts the
stored faults of a querier that the query makes LIVE, and, for the line counters, before that STATUS is offered, is the
model's choice (log 28). In CONFIG FAULT, where R155 has the station still report its peers and R167 and R173 have it
answer PEER REPORT NO SUCH, the model leaves open which (log 29). -/
def Obligations.ReportsCarryTheirFigures : Prop :=
  (∀ (s : State) (q : Query), Asked s q → Answers (.stationReport q) s (fun t =>
    (∃ state cause fault warning, Replied t q 1#8 .done
      [ BitVec.ofNat 8 (32 * state + 8 * cause + fault), BitVec.ofNat 8 (t.itm.vs / 256), BitVec.ofNat 8 t.itm.vs,
        BitVec.ofNat 8 (4 * (t.budget.lc % 4) + t.budget.le % 4),
        BitVec.ofNat 8 (flag t.lif.listenOnly 7 + flag (decide (t.lif.line = .stuck)) 6 + flag t.budget.charging 5
          + flag t.budget.overBudget 4 + flag warning 3 + flag t.alertSeen 2
          + flag (t.view.any (fun e => decide (0 < e.contention))) 1
          + flag (t.view.any (fun e => decide (0 < e.refused))) 0),
        BitVec.ofNat 8 (flag t.expected.learning 3 + flag t.flash.fallback 2 + flag t.flash.pendingAlign.isSome 1
          + flag (decide (t.flash.reference = t.stc.own)) 0) ] false
      ∧ (warning = true ↔ WarningHolds t)
      ∧ state = (match t.stc.state with
          | .start => 0 | .run => 1 | .parked => 2 | .sag => 3 | .configFault => 4)
      ∧ cause = (match t.stc.cause with | .powerOn => 1 | .pin => 2 | .serviceRestart => 3)
      ∧ fault = (match t.stc.fault with
          | none => 0 | some .noMemory => 1 | some .badCheck => 2 | some .badFormat => 3 | some .noSection => 4
          | some .badValue => 5 | some .badCurve => 6 | some .conflict => 7))
    ∧ QueryKeeps s t ∧ ChannelsKept s t ∧ WokenStatus s t))
  ∧ (∀ (s : State) (q : Query) (n : ChannelNo) (c : Channel), Asked s q → s.stc.state ≠ .configFault →
      s.chans.find? (fun e => e.1.val == q.arg1.toNat) = some (n, c) → Answers (.channelReport q) s (fun t =>
    (∃ c' kind prot cause, t.chan n = some c' ∧ Replied t q 2#8 .done
      [ BitVec.ofNat 8 (32 * kind + 8 * prot),
        BitVec.ofNat 8 (64 * (c'.trips % 4) + 16 * cause + flag c'.openFlag 3 + flag c'.underSupply 2
          + flag c'.test.isSome 1 + flag c'.staged.isSome 0),
        BitVec.ofNat 8 (c'.applied / 256), BitVec.ofNat 8 c'.applied, BitVec.ofNat 8 c'.iOn,
        BitVec.ofNat 8 c'.taken ] false
      ∧ kind = (match c'.prof.kind with
          | .lamp => 1 | .flash => 2 | .stopflash => 3 | .telltale => 4 | .fan => 5 | .gauge => 6)
      ∧ prot = (match c'.protection with | .normal => 0 | .blanking => 1 | .tripped => 2 | .latched => 3)
      ∧ cause = (match c'.cause with | none => 0 | some .overcurrent => 1 | some .short => 2 | some .stall => 3))
    ∧ QueryKeeps s t ∧ ChannelsKept s t ∧ WokenStatus s t))
  ∧ (∀ (s : State) (q : Query) (p : Station) (x : Peer), Asked s q →
      q.arg1.toNat = p.val → p ≠ s.stc.own → Answers (.peerReport q) s (fun t =>
    (tableGet p t.peers = some x →
      if s.stc.state = .configFault ∧ Config.faultReportsPeers = false then Replied t q 3#8 .noSuch [] false
      else ∃ presence, Replied t q 3#8 .done
      (match x.status with
       | some y => [ BitVec.ofNat 8 (32 * presence + 16 + y.lc % 4), BitVec.ofNat 8 x.age, BitVec.ofNat 8 x.gaps,
                     BitVec.ofNat 8 y.d0, BitVec.ofNat 8 y.d1, BitVec.ofNat 8 y.d2, BitVec.ofNat 8 y.d3,
                     BitVec.ofNat 8 y.supply, y.faults ]
       | none => [ BitVec.ofNat 8 (32 * presence), BitVec.ofNat 8 x.age, BitVec.ofNat 8 x.gaps,
                   0#8, 0#8, 0#8, 0#8, 0#8, 0#8 ]) false
      ∧ presence = (match x.presence with
          | .unknown => 0 | .live => 1 | .parked => 2 | .stale => 3 | .absent => 4))
    ∧ QueryKeeps s t ∧ ChannelsKept s t ∧ WokenStatus s t))
  ∧ ∀ (s : State) (q : Query), Asked s q → Answers (.lineCounters q) s (fun t =>
    Replied t q 4#8 .done
      [ BitVec.ofNat 8 s.lif.counters.check, BitVec.ofNat 8 s.lif.counters.framing,
        BitVec.ofNat 8 s.lif.counters.malformed, BitVec.ofNat 8 s.lif.counters.unknownKind,
        BitVec.ofNat 8 s.lif.counters.txBitErrors, BitVec.ofNat 8 s.lif.counters.txDropped,
        BitVec.ofNat 8 s.lif.counters.txOverflow, BitVec.ofNat 8 s.lif.counters.stuckEvents ] false
    ∧ QueryKeeps s t ∧ ChannelsKept s t ∧ WokenStatus s t)

/-- NO SUCH, without data or effect: SERVICE_QUERY_NO_SUCH_ITEM; items 2, 5, 6 and 7 in CONFIG FAULT; a channel
without a record for items 2, 5 and 6; no other station's number for item 3; a duration of 0 for item 5. A targeted
query finds a PARKED station awake, and a STATUS waits for the wake, or for the parking it abandons (R167, R170, R171,
R173, R175). Item 3 in CONFIG FAULT is spoken of in ReportsCarryTheirFigures. -/
def Obligations.QueriesOutOfRangeAnswerNoSuch : Prop :=
  ∀ (s : State) (q : Query) (item : Byte) (c : Instr), Asked s q →
    (c = .serviceQueryNoSuchItem q item ∧ (item = 0#8 ∨ 7 < item.toNat)
      ∨ s.stc.state = .configFault ∧ (c = .channelReport q ∧ item = 2#8
          ∨ c = .testChannel q ∧ item = 5#8 ∨ c = .clearLatch q ∧ item = 6#8 ∨ c = .restart q ∧ item = 7#8)
      ∨ (∀ e ∈ s.chans, e.1.val ≠ q.arg1.toNat) ∧ (c = .channelReport q ∧ item = 2#8
          ∨ c = .testChannel q ∧ item = 5#8 ∨ c = .clearLatch q ∧ item = 6#8)
      ∨ c = .peerReport q ∧ item = 3#8 ∧ (7 < q.arg1.toNat ∨ q.arg1.toNat = s.stc.own.val)
      ∨ c = .testChannel q ∧ item = 5#8 ∧ q.arg2.toNat % 128 = 0) →
    Answers c s (fun t =>
      Replied t q item .noSuch [] false ∧ QueryKeeps s t ∧ ChannelsKept s t ∧ WokenStatus s t
      ∧ t.stc.state = (if s.stc.state = .parked then .run else s.stc.state))

/-- TEST_CHANNEL with a duration of 1 to 127 on a channel of a station that works: REFUSED while IGNITION's taken
value is active or the channel is LATCHED; else DONE: the override is set or replaced, the channel composes 255 or 0
from it by shed action and level, once for all that the instant changes, so that a composed value that ends as it was
leaves target and applied duty and protection state; and the quiet count restarts. A STATUS waits where the query wakes
the station or abandons a parking (R49 to R53, R169 to R171, R173, R175). -/
def Obligations.TestChannelSetsTheOverride : Prop :=
  ∀ (s : State) (q : Query) (n : ChannelNo) (c : Channel), Asked s q → s.works = true →
    s.chan n = some c → q.arg1.toNat = n.val → q.arg2.toNat % 128 ≠ 0 → s.clock.left = [] → c.changeDue = false →
    Answers (.testChannel q) s (fun t => ∃ c', t.chan n = some c' ∧ QueryKeeps s t ∧ WokenStatus s t
      ∧ t.stc.state = (if s.stc.state = .parked then .run else s.stc.state)
      ∧ (if 0 < s.takenOf .ignition ∨ c.protection = .latched then
          Replied t q 5#8 .refused [] false ∧ c'.test = c.test ∧ ChannelsKept s t
         else Replied t q 5#8 .done [] false ∧ t.stc.quiet = 0 ∧ t.stc.parkingPending = false
          ∧ c'.test = some { on := decide (128 ≤ q.arg2.toNat), left := q.arg2.toNat % 128 }
          ∧ c'.taken = c.taken
          ∧ c'.composed = composedOf t.budget.le false c (testedValue c'.test c.taken)
          ∧ (c.NotYetAt s.clock.instant → c'.composed = c.composed →
              c'.applied = c.applied ∧ c'.target = c.target ∧ c'.protection = c.protection)))

/-- CLEAR_LATCH on a LATCHED channel of a station that works: DONE; counts and cause clear, the duty becomes the
target, or for a FAN the first step of a ramp, and the state is BLANKING with count 2 where that is above 0, else
NORMAL. On any other channel: REFUSED, and its trip count, cause and override stay. A STATUS waits where the query wakes
the station or abandons a parking (R111, R120, R170, R171, R173, R175). -/
def Obligations.ClearLatchReleasesAtOnce : Prop :=
  ∀ (s : State) (q : Query) (n : ChannelNo) (c : Channel), Asked s q → s.works = true →
    s.chan n = some c → q.arg1.toNat = n.val →
    Answers (.clearLatch q) s (fun t => ∃ c', t.chan n = some c' ∧ QueryKeeps s t ∧ WokenStatus s t
      ∧ (if c.protection = .latched then
          Replied t q 6#8 .done [] false ∧ c'.trips = 0 ∧ c'.cause = none ∧ c'.release = 0
          ∧ c'.applied = (if c.prof.kind = .fan then min c'.target 64 else c'.target)
          ∧ c'.protection = (if 0 < c'.applied then .blanking else .normal)
          ∧ (0 < c'.applied → c'.blanking = 2)
          ∧ c'.openFlag = c.openFlag ∧ c'.taken = c.taken
         else Replied t q 6#8 .refused [] false ∧ ChannelsKept s t))

/-- RESTART is DONE: its reply waits, marked, and the station restarts when it leaves the queue; a LISTEN-ONLY station
restarts at once, the line and every terminal released. A STATUS waits where the query wakes the station or abandons a
parking (R170 to R172, R175). That the restart is a hold, under which reply, channels and counters stay until RESET_END,
is the model's reading (log 8). -/
def Obligations.RestartFollowsItsReply : Prop :=
  ∀ (s : State) (q : Query), Asked s q → s.works = true →
    Answers (.restart q) s (fun t =>
      Replied t q 7#8 .done [] true ∧ QueryKeeps s t ∧ ChannelsKept s t ∧ WokenStatus s t
      ∧ t.hold.service = (s.hold.service || s.lif.listenOnly)
      ∧ (s.lif.listenOnly = true → t.lif.line = .idle ∧ ∀ n, t.terminalDrive n = .released))

/-! ## Figures -/

/-- The target duty of a LAMP or FAN: 0 and 1023 at composed 0 and 255 without the stages; from 1 to 254 Stage A
against the rated voltage, Stage B the ratio and the under-supply flag, Stage C the linear law for a FAN and the
square law for a LAMP; switched kinds 1023 or 0 (R54, R83, R84, R86, R87). -/
def Obligations.DutyFollowsTheStages : Prop :=
  (∀ (c : Channel) (vs : Nat), c.prof.kind = .lamp ∨ c.prof.kind = .fan →
    (c.composed = 0 → c.drive vs = { c with target := 0, underSupply := false })
    ∧ (c.composed = 255 → c.drive vs = { c with target := 1023, underSupply := false })
    ∧ (0 < c.composed → c.composed < 255 →
        let vt := c.prof.rated * c.composed / 255
        let q := min 1024 (1024 * vt / vs)
        0 < vs →
        (c.drive vs).vt = vt ∧ (c.drive vs).q = q ∧ ((c.drive vs).underSupply = true ↔ vs ≤ vt)
        ∧ (c.drive vs).target = (if c.prof.kind = .fan then min 1023 q else min 1023 (q * q / 1024))
        ∧ (vs ≤ vt → (c.drive vs).target = 1023)
        ∧ (c.drive vs).composed = c.composed ∧ (c.drive vs).applied = c.applied))
  ∧ ∀ (c : Channel) (vs : Nat), c.switched = true → c.composed = 0 ∨ c.composed = 255 →
      c.drive vs = { c with target := if c.composed = 255 then 1023 else 0, underSupply := false }

/-- Damping moves d toward p by the quotient of their distance by 2^k truncated toward zero, or by 1 where that is 0
and they differ; so d stays within 0 to 1000, never passes p, moves until it is there, and with k = 0 goes there at
once. A boundary in SAG, or one with a HELD source and a composed value above 0, does not damp (R96, R97). -/
def Obligations.NeedleClosesOnItsPosition : Prop :=
  (∀ k p d : Nat, p ≤ 1000 → d ≤ 1000 →
    let s : Int := if Int.tdiv ((p : Int) - d) (2 ^ k) = 0 then (if d < p then 1 else if p < d then -1 else 0)
                   else Int.tdiv ((p : Int) - d) (2 ^ k)
    ((damp k p d : Nat) : Int) = (d : Int) + s ∧ damp k p d ≤ 1000
    ∧ (d ≤ p → d ≤ damp k p d ∧ damp k p d ≤ p) ∧ (p ≤ d → p ≤ damp k p d ∧ damp k p d ≤ d)
    ∧ (d ≠ p → damp k p d ≠ d) ∧ (k = 0 → damp k p d = p))
  ∧ ∀ (c : Channel) (cls : SourceClass) (reading : Nat),
      c.gaugeUpdate true cls reading = c
      ∧ (0 < c.composed → c.gaugeUpdate false .held reading = c)
      ∧ (c.composed = 0 → (c.gaugeUpdate false cls reading).p = 0
          ∧ (c.gaugeUpdate false cls reading).d = damp c.prof.gauge.shift 0 c.d)
      ∧ (0 < c.composed → (c.gaugeUpdate false .lost reading).p = 0
          ∧ (c.gaugeUpdate false .fresh reading).p = curveAt reading c.prof.gauge.curve
          ∧ (c.gaugeUpdate false .fresh reading).d
              = damp c.prof.gauge.shift (curveAt reading c.prof.gauge.curve) c.d)

/-- BEAT_BOUNDARY, taken whole, at a GAUGE. Every cache age goes up by 1 up to 255 first, in RUN, SAG and PARKED. The
first row of TABLE 31 that holds: in SAG, p and d stay; at a composed value of 0, p is 0 and d damped toward it; a
HELD source leaves both; a LOST one is p 0, and a FRESH one p by the curve from its reading, d damped toward p. The
classes are those of TABLE 30: a local source by its validity; a remote one LOST for an UNKNOWN or ABSENT peer or an
invalid entry, HELD for a PARKED peer, LOST from age 250 on, HELD for a STALE peer or from age 48 on, FRESH for a LIVE
peer below 48 (R91 to R93, R96, R98). No RESTART's reply waits, which a displacement at the boundary would carry out.
Presences are read as the boundary leaves them, the model's choice among the orders that R94 allows (log 6). -/
def Obligations.GaugesFollowTheirSources : Prop :=
  (∀ (order : BoundaryOrder) (s : State), s.timerRuns = true → order.leave = [] →
    (∀ e ∈ s.txq.entries, e.restart = false) →
    Answers (.beatBoundary order) s (fun t => t.cache =
      if s.stc.state = .configFault then s.cache else s.cache.map (fun e => { e with age := min 255 (e.age + 1) })))
  ∧ ∀ (order : BoundaryOrder) (s : State) (n : ChannelNo) (c : Channel), s.timerRuns = true → order.leave = [] →
    s.chan n = some c → c.prof.kind = .gauge → (∀ e ∈ s.txq.entries, e.restart = false) →
    Answers (.beatBoundary order) s (fun t => ∃ c', t.chan n = some c'
      ∧ (let g := c.prof.gauge
         let sag := if order.gaugeSagFirst = true then t.stc.state = .sag else s.stc.state = .sag
         let stays := c'.p = c.p ∧ c'.d = c.d
         let goesTo := fun p => c'.p = p ∧ c'.d = damp g.shift p c.d
         (sag → stays)
         ∧ (¬ sag → c'.composed = 0 → goesTo 0)
         ∧ (¬ sag → 0 < c'.composed →
             (∀ (k : InputNo) (x : Input), g.station = s.stc.own.val → k.val = g.input →
               tableGet k t.itm.inputs = some x → if x.valid = true then goesTo (curveAt x.reading g.curve) else goesTo 0)
             ∧ ∀ (p : Station) (x : Peer) (e : CacheEntry), g.station = p.val → p ≠ s.stc.own →
               tableGet p t.peers = some x →
               t.cache.find? (fun e => e.station == g.station && e.input == g.input) = some e →
               if x.presence = .unknown ∨ x.presence = .absent ∨ e.valid = false then goesTo 0
               else if x.presence = .parked then stays
               else if 250 ≤ e.age then goesTo 0
               else if x.presence = .stale ∨ 48 ≤ e.age then stays
               else goesTo (curveAt e.value g.curve))))

/-- The curve of a gauge, by points of strictly ascending readings: at and below the first reading the first position;
at and beyond the last the last; between two neighbouring points, ends included, the position of the first with the
quotient of the segment truncated toward zero, which is never carried past either end; so a point's own reading gives
its own position, and every position lies between the lowest and the highest of the curve (R95). -/
def Obligations.CurveGivesThePosition : Prop :=
  ∀ (curve : List (Nat × Nat)) (x : Nat), curve.Pairwise (fun a b => a.1 < b.1) →
    (∀ a rest, curve = a :: rest → x ≤ a.1 → curveAt x curve = a.2)
    ∧ (∀ front a, curve = front ++ [a] → a.1 ≤ x → curveAt x curve = a.2)
    ∧ (∀ front a b rest, curve = front ++ a :: b :: rest → a.1 ≤ x → x ≤ b.1 →
        ((curveAt x curve : Nat) : Int)
          = (a.2 : Int) + Int.tdiv (((x : Int) - a.1) * ((b.2 : Int) - a.2)) ((b.1 : Int) - a.1)
        ∧ min a.2 b.2 ≤ curveAt x curve ∧ curveAt x curve ≤ max a.2 b.2)
    ∧ (∀ a ∈ curve, curveAt a.1 curve = a.2)
    ∧ (∀ lo hi, curve ≠ [] → (∀ a ∈ curve, lo ≤ a.2 ∧ a.2 ≤ hi) → lo ≤ curveAt x curve ∧ curveAt x curve ≤ hi)

/-- BEAT_BOUNDARY, taken whole, at a station that works: D_0 to D_3 from the nominal currents of each class's channels
with underlying demand; the totals T_k from them and the demands of every LIVE or PARKED peer with a last STATUS; the
charging flag by V_s and the allowance by the flag; the needed level is the least L with T_(3 − L) within the
allowance, or 3, the over-budget flag telling T_0 above it. In PARKED, and in RUN with V_s at or above the sag
threshold, L_c rises to the needed level at once; below L_c the lowering count goes up where the next level down fits
with the margin, and at 64 L_c falls by 1; elsewhere the count returns to 0. A station that is in SAG after the
boundary has L_c at 3 and the count at 0 (R129 to R135). No RESTART's reply waits, which a displacement at the
boundary would carry out. That the totals read the peers as this boundary leaves them is the model's choice among the
orders that R136 allows (log 6). -/
def Obligations.BudgetJudgesTheLevel : Prop :=
  ∀ (order : BoundaryOrder) (s : State) (com : CommonSection), s.works = true → s.common = some com →
    order.leave = [] → (∀ e ∈ s.txq.entries, e.restart = false) → Answers (.beatBoundary order) s (fun t =>
    let a := if com.chargeThreshold ≤ s.itm.vs then com.aCharge else com.aBattery
    t.budget.d0 = ownDemand t 0 ∧ t.budget.d1 = ownDemand t 1 ∧ t.budget.d2 = ownDemand t 2 ∧ t.budget.d3 = ownDemand t 3
    ∧ t.itm.vs = s.itm.vs ∧ (t.budget.charging = true ↔ com.chargeThreshold ≤ s.itm.vs)
    ∧ (t.budget.overBudget = true ↔ a < carTotal t 0)
    ∧ ∃ needed, needed ≤ 3
      ∧ (needed < 3 → carTotal t (3 - needed) ≤ a) ∧ (∀ l, l < needed → a < carTotal t (3 - l))
      ∧ (s.stc.state = .parked ∨ s.stc.state = .run ∧ com.sagThreshold ≤ s.itm.vs →
          if s.budget.lc < needed then t.budget.lc = needed ∧ t.budget.lowering = 0
          else if needed < s.budget.lc ∧ carTotal t (3 - (s.budget.lc - 1)) + com.margin ≤ a then
            (if 64 ≤ s.budget.lowering + 1 then t.budget.lc = s.budget.lc - 1 ∧ t.budget.lowering = 0
             else t.budget.lc = s.budget.lc ∧ t.budget.lowering = s.budget.lowering + 1)
          else t.budget.lc = s.budget.lc ∧ t.budget.lowering = 0)
      ∧ (t.stc.state = .sag → t.budget.lc = 3 ∧ t.budget.lowering = 0))

/-! ## Headlines -/

/-- A bulletin written by R142 and R143 and heard whole is judged valid by R146, and reads as the bulletin that was
written: for every kind, sender, sequence and body that TABLE 47 allows. -/
def Obligations.WrittenBulletinIsReadBack : Prop :=
  ∀ b : Bulletin, b.wellFormed = true → judge (heardWhole b.encode) = .valid b

/-- Every step keeps the queue within what R150 says of it, and so the queue as the first offer of the instant found it,
which the model keeps (log 27). -/
def Obligations.EveryStepKeepsTheQueue : Prop :=
  ∀ s t : State, QueueInv s → step s = .next t → QueueInv t

/-- Every step keeps L_e at the highest of the own L_c and the levels of LIVE peers, between the own level and 3 (R137).
Two conditions are exempt: CONFIG FAULT, whose Budget Unit does no work and keeps its reset values (R128), and a part
held in reset, whose fields stay as they were until RESET_END, the model's reading of a reset (DEDUCED, log 8). -/
def Obligations.EveryStepKeepsTheEffectiveLevel : Prop :=
  ∀ s t : State, LevelInv s → step s = .next t → LevelInv t

/-- Every step keeps duties within 0 to 1023, needles within 0 to 1000, and TRIPPED and LATCHED channels at duty 0. -/
def Obligations.EveryStepKeepsChannelsInRange : Prop :=
  ∀ s t : State, ChannelsInv s → step s = .next t → ChannelsInv t

/-- While the effective level is L_e, a channel of class above 3 − L_e has a composed value of 0, or of no more than
its cap; and a class-0 channel is never shed. For steps that take boundaries whole (log 4). -/
def Obligations.EveryStepKeepsShedChannelsShed : Prop :=
  (∀ s t : State, WholeQueue s → ShedInv s → step s = .next t → ShedInv t)
  ∧ ∀ (c : Channel) (le : Nat) (parked : Bool), c.prof.shedClass = 0 → c.shed le = false
      ∧ (c.prof.parkPermitted = true ∨ parked = false → c.compose le parked = c.underTest)

/-- The machine right after a reset, whatever its cause and straps, meets the four invariants. -/
def Obligations.ResetMeetsTheInvariants : Prop :=
  ∀ (cause : ResetCause) (straps : Station),
    QueueInv (State.afterReset cause straps) ∧ LevelInv (State.afterReset cause straps)
    ∧ ChannelsInv (State.afterReset cause straps) ∧ ShedInv (State.afterReset cause straps)
end

