-- ==== Sys2Proof/Laws/State.lean ====
section
/-! SUPPORT. The record updates of the state, field by field: one lemma per field per update, each true by unfolding, so
that no later proof unfolds an update; and the laws of the keyed tables. -/

namespace Sys2Proof.Machine

/-! ## Keyed tables -/

@[simp] theorem tableMap_keys {κ α : Type} (f : κ → α → α) (t : List (κ × α)) : (tableMap f t).map Prod.fst = t.map Prod.fst := by
  simp [tableMap, Function.comp_def]

section Tables
variable {κ α : Type} [DecidableEq κ]

@[simp] theorem tableGet_nil (k : κ) : tableGet k ([] : List (κ × α)) = none := rfl

@[simp] theorem tableGet_cons (k k' : κ) (a : α) (t : List (κ × α)) :
    tableGet k ((k', a) :: t) = if k = k' then some a else tableGet k t := rfl

/-- The record under the key changed, read back. -/
@[simp] theorem tableGet_tableModify_self (k : κ) (f : α → α) (t : List (κ × α)) :
    tableGet k (tableModify k f t) = (tableGet k t).map f := by
  induction t with
  | nil => rfl
  | cons e t ih =>
    obtain ⟨k', a⟩ := e
    by_cases h : k = k'
    · simp [tableModify, h]
    · have h' : ¬ k' = k := fun e => h e.symm
      simpa [tableModify, h, h'] using ih

/-- The record under another key is as it was. -/
theorem tableGet_tableModify_ne {k j : κ} (h : j ≠ k) (f : α → α) (t : List (κ × α)) :
    tableGet j (tableModify k f t) = tableGet j t := by
  induction t with
  | nil => rfl
  | cons e t ih =>
    obtain ⟨k', a⟩ := e
    by_cases hk : k' = k
    · subst hk
      simpa [tableModify, h] using ih
    · by_cases hj : j = k'
      · simp [tableModify, hk, hj]
      · simpa [tableModify, hk, hj] using ih

/-- Every record changed, one read back. -/
@[simp] theorem tableGet_tableMap (k : κ) (f : κ → α → α) (t : List (κ × α)) :
    tableGet k (tableMap f t) = (tableGet k t).map (f k) := by
  induction t with
  | nil => rfl
  | cons e t ih =>
    obtain ⟨k', a⟩ := e
    by_cases h : k = k'
    · simp [tableMap, h]
    · simpa [tableMap, h] using ih

/-- The keys of a table stay. -/
@[simp] theorem tableModify_keys (k : κ) (f : α → α) (t : List (κ × α)) :
    (tableModify k f t).map Prod.fst = t.map Prod.fst := by
  simp only [tableModify, List.map_map]
  refine List.map_congr_left fun e _ => ?_
  by_cases h : e.1 = k <;> simp [h]

/-- A record found stands in the table. -/
theorem tableGet_mem {k : κ} {a : α} {t : List (κ × α)} (h : tableGet k t = some a) : (k, a) ∈ t := by
  induction t with
  | nil => simp at h
  | cons e t ih =>
    obtain ⟨k', b⟩ := e
    by_cases hk : k = k'
    · simp [hk] at h; simp [hk, h]
    · simp [hk] at h; exact List.mem_cons_of_mem _ (ih h)

end Tables

/-! ## The queue of commands -/

section
variable (s : State) (l : List Instr)

@[simp] theorem State.withPending_hold : (s.withPending l).hold = s.hold := rfl
@[simp] theorem State.withPending_stc : (s.withPending l).stc = s.stc := rfl
@[simp] theorem State.withPending_common : (s.withPending l).common = s.common := rfl
@[simp] theorem State.withPending_sched : (s.withPending l).sched = s.sched := rfl
@[simp] theorem State.withPending_clock : (s.withPending l).clock = s.clock := rfl
@[simp] theorem State.withPending_flash : (s.withPending l).flash = s.flash := rfl
@[simp] theorem State.withPending_intrinsics : (s.withPending l).intrinsics = s.intrinsics := rfl
@[simp] theorem State.withPending_lif : (s.withPending l).lif = s.lif := rfl
@[simp] theorem State.withPending_txq : (s.withPending l).txq = s.txq := rfl
@[simp] theorem State.withPending_peers : (s.withPending l).peers = s.peers := rfl
@[simp] theorem State.withPending_expected : (s.withPending l).expected = s.expected := rfl
@[simp] theorem State.withPending_itm : (s.withPending l).itm = s.itm := rfl
@[simp] theorem State.withPending_origins : (s.withPending l).origins = s.origins := rfl
@[simp] theorem State.withPending_view : (s.withPending l).view = s.view := rfl
@[simp] theorem State.withPending_maps : (s.withPending l).maps = s.maps := rfl
@[simp] theorem State.withPending_chans : (s.withPending l).chans = s.chans := rfl
@[simp] theorem State.withPending_cache : (s.withPending l).cache = s.cache := rfl
@[simp] theorem State.withPending_alertSeen : (s.withPending l).alertSeen = s.alertSeen := rfl
@[simp] theorem State.withPending_budget : (s.withPending l).budget = s.budget := rfl
@[simp] theorem State.withPending_offered : (s.withPending l).offered = s.offered := rfl
@[simp] theorem State.withPending_pending : (s.withPending l).pending = l := rfl

end

/-! ## Channels -/

section
variable (s : State) (n : ChannelNo) (f : Channel → Channel)

@[simp] theorem State.modifyChan_hold : (s.modifyChan n f).hold = s.hold := rfl
@[simp] theorem State.modifyChan_stc : (s.modifyChan n f).stc = s.stc := rfl
@[simp] theorem State.modifyChan_common : (s.modifyChan n f).common = s.common := rfl
@[simp] theorem State.modifyChan_sched : (s.modifyChan n f).sched = s.sched := rfl
@[simp] theorem State.modifyChan_clock : (s.modifyChan n f).clock = s.clock := rfl
@[simp] theorem State.modifyChan_flash : (s.modifyChan n f).flash = s.flash := rfl
@[simp] theorem State.modifyChan_intrinsics : (s.modifyChan n f).intrinsics = s.intrinsics := rfl
@[simp] theorem State.modifyChan_lif : (s.modifyChan n f).lif = s.lif := rfl
@[simp] theorem State.modifyChan_txq : (s.modifyChan n f).txq = s.txq := rfl
@[simp] theorem State.modifyChan_peers : (s.modifyChan n f).peers = s.peers := rfl
@[simp] theorem State.modifyChan_expected : (s.modifyChan n f).expected = s.expected := rfl
@[simp] theorem State.modifyChan_itm : (s.modifyChan n f).itm = s.itm := rfl
@[simp] theorem State.modifyChan_origins : (s.modifyChan n f).origins = s.origins := rfl
@[simp] theorem State.modifyChan_view : (s.modifyChan n f).view = s.view := rfl
@[simp] theorem State.modifyChan_maps : (s.modifyChan n f).maps = s.maps := rfl
@[simp] theorem State.modifyChan_cache : (s.modifyChan n f).cache = s.cache := rfl
@[simp] theorem State.modifyChan_alertSeen : (s.modifyChan n f).alertSeen = s.alertSeen := rfl
@[simp] theorem State.modifyChan_budget : (s.modifyChan n f).budget = s.budget := rfl
@[simp] theorem State.modifyChan_pending : (s.modifyChan n f).pending = s.pending := rfl
@[simp] theorem State.modifyChan_offered : (s.modifyChan n f).offered = s.offered := rfl
@[simp] theorem State.modifyChan_chans : (s.modifyChan n f).chans = tableModify n f s.chans := rfl

end

/-! ## All channels -/

section
variable (s : State) (f : ChannelNo → Channel → Channel)

@[simp] theorem State.mapChans_hold : (s.mapChans f).hold = s.hold := rfl
@[simp] theorem State.mapChans_stc : (s.mapChans f).stc = s.stc := rfl
@[simp] theorem State.mapChans_common : (s.mapChans f).common = s.common := rfl
@[simp] theorem State.mapChans_sched : (s.mapChans f).sched = s.sched := rfl
@[simp] theorem State.mapChans_clock : (s.mapChans f).clock = s.clock := rfl
@[simp] theorem State.mapChans_flash : (s.mapChans f).flash = s.flash := rfl
@[simp] theorem State.mapChans_intrinsics : (s.mapChans f).intrinsics = s.intrinsics := rfl
@[simp] theorem State.mapChans_lif : (s.mapChans f).lif = s.lif := rfl
@[simp] theorem State.mapChans_txq : (s.mapChans f).txq = s.txq := rfl
@[simp] theorem State.mapChans_peers : (s.mapChans f).peers = s.peers := rfl
@[simp] theorem State.mapChans_expected : (s.mapChans f).expected = s.expected := rfl
@[simp] theorem State.mapChans_itm : (s.mapChans f).itm = s.itm := rfl
@[simp] theorem State.mapChans_origins : (s.mapChans f).origins = s.origins := rfl
@[simp] theorem State.mapChans_view : (s.mapChans f).view = s.view := rfl
@[simp] theorem State.mapChans_maps : (s.mapChans f).maps = s.maps := rfl
@[simp] theorem State.mapChans_cache : (s.mapChans f).cache = s.cache := rfl
@[simp] theorem State.mapChans_alertSeen : (s.mapChans f).alertSeen = s.alertSeen := rfl
@[simp] theorem State.mapChans_budget : (s.mapChans f).budget = s.budget := rfl
@[simp] theorem State.mapChans_pending : (s.mapChans f).pending = s.pending := rfl
@[simp] theorem State.mapChans_offered : (s.mapChans f).offered = s.offered := rfl
@[simp] theorem State.mapChans_chans : (s.mapChans f).chans = tableMap f s.chans := rfl

end

/-! ## Peers -/

section
variable (s : State) (p : Station) (f : Peer → Peer)

@[simp] theorem State.modifyPeer_hold : (s.modifyPeer p f).hold = s.hold := rfl
@[simp] theorem State.modifyPeer_stc : (s.modifyPeer p f).stc = s.stc := rfl
@[simp] theorem State.modifyPeer_common : (s.modifyPeer p f).common = s.common := rfl
@[simp] theorem State.modifyPeer_sched : (s.modifyPeer p f).sched = s.sched := rfl
@[simp] theorem State.modifyPeer_clock : (s.modifyPeer p f).clock = s.clock := rfl
@[simp] theorem State.modifyPeer_flash : (s.modifyPeer p f).flash = s.flash := rfl
@[simp] theorem State.modifyPeer_intrinsics : (s.modifyPeer p f).intrinsics = s.intrinsics := rfl
@[simp] theorem State.modifyPeer_lif : (s.modifyPeer p f).lif = s.lif := rfl
@[simp] theorem State.modifyPeer_txq : (s.modifyPeer p f).txq = s.txq := rfl
@[simp] theorem State.modifyPeer_expected : (s.modifyPeer p f).expected = s.expected := rfl
@[simp] theorem State.modifyPeer_itm : (s.modifyPeer p f).itm = s.itm := rfl
@[simp] theorem State.modifyPeer_origins : (s.modifyPeer p f).origins = s.origins := rfl
@[simp] theorem State.modifyPeer_view : (s.modifyPeer p f).view = s.view := rfl
@[simp] theorem State.modifyPeer_maps : (s.modifyPeer p f).maps = s.maps := rfl
@[simp] theorem State.modifyPeer_chans : (s.modifyPeer p f).chans = s.chans := rfl
@[simp] theorem State.modifyPeer_cache : (s.modifyPeer p f).cache = s.cache := rfl
@[simp] theorem State.modifyPeer_alertSeen : (s.modifyPeer p f).alertSeen = s.alertSeen := rfl
@[simp] theorem State.modifyPeer_budget : (s.modifyPeer p f).budget = s.budget := rfl
@[simp] theorem State.modifyPeer_pending : (s.modifyPeer p f).pending = s.pending := rfl
@[simp] theorem State.modifyPeer_offered : (s.modifyPeer p f).offered = s.offered := rfl
@[simp] theorem State.modifyPeer_peers : (s.modifyPeer p f).peers = tableModify p f s.peers := rfl

end

/-! ## The transmit queue -/

section
variable (s : State) (l : List Entry)

@[simp] theorem State.setEntries_hold : (s.setEntries l).hold = s.hold := rfl
@[simp] theorem State.setEntries_stc : (s.setEntries l).stc = s.stc := rfl
@[simp] theorem State.setEntries_common : (s.setEntries l).common = s.common := rfl
@[simp] theorem State.setEntries_sched : (s.setEntries l).sched = s.sched := rfl
@[simp] theorem State.setEntries_clock : (s.setEntries l).clock = s.clock := rfl
@[simp] theorem State.setEntries_flash : (s.setEntries l).flash = s.flash := rfl
@[simp] theorem State.setEntries_intrinsics : (s.setEntries l).intrinsics = s.intrinsics := rfl
@[simp] theorem State.setEntries_lif : (s.setEntries l).lif = s.lif := rfl
@[simp] theorem State.setEntries_peers : (s.setEntries l).peers = s.peers := rfl
@[simp] theorem State.setEntries_expected : (s.setEntries l).expected = s.expected := rfl
@[simp] theorem State.setEntries_itm : (s.setEntries l).itm = s.itm := rfl
@[simp] theorem State.setEntries_origins : (s.setEntries l).origins = s.origins := rfl
@[simp] theorem State.setEntries_view : (s.setEntries l).view = s.view := rfl
@[simp] theorem State.setEntries_maps : (s.setEntries l).maps = s.maps := rfl
@[simp] theorem State.setEntries_chans : (s.setEntries l).chans = s.chans := rfl
@[simp] theorem State.setEntries_cache : (s.setEntries l).cache = s.cache := rfl
@[simp] theorem State.setEntries_alertSeen : (s.setEntries l).alertSeen = s.alertSeen := rfl
@[simp] theorem State.setEntries_budget : (s.setEntries l).budget = s.budget := rfl
@[simp] theorem State.setEntries_pending : (s.setEntries l).pending = s.pending := rfl
@[simp] theorem State.setEntries_offered : (s.setEntries l).offered = s.offered := rfl
@[simp] theorem State.setEntries_entries : (s.setEntries l).txq.entries = l := rfl
@[simp] theorem State.setEntries_seq : (s.setEntries l).txq.seq = s.txq.seq := rfl

end

/-! ## The offers of the instant are over -/

section
variable (s : State)

@[simp] theorem State.sealOffers_hold : s.sealOffers.hold = s.hold := rfl
@[simp] theorem State.sealOffers_stc : s.sealOffers.stc = s.stc := rfl
@[simp] theorem State.sealOffers_common : s.sealOffers.common = s.common := rfl
@[simp] theorem State.sealOffers_sched : s.sealOffers.sched = s.sched := rfl
@[simp] theorem State.sealOffers_clock : s.sealOffers.clock = s.clock := rfl
@[simp] theorem State.sealOffers_flash : s.sealOffers.flash = s.flash := rfl
@[simp] theorem State.sealOffers_intrinsics : s.sealOffers.intrinsics = s.intrinsics := rfl
@[simp] theorem State.sealOffers_lif : s.sealOffers.lif = s.lif := rfl
@[simp] theorem State.sealOffers_txq : s.sealOffers.txq = s.txq := rfl
@[simp] theorem State.sealOffers_peers : s.sealOffers.peers = s.peers := rfl
@[simp] theorem State.sealOffers_expected : s.sealOffers.expected = s.expected := rfl
@[simp] theorem State.sealOffers_itm : s.sealOffers.itm = s.itm := rfl
@[simp] theorem State.sealOffers_origins : s.sealOffers.origins = s.origins := rfl
@[simp] theorem State.sealOffers_view : s.sealOffers.view = s.view := rfl
@[simp] theorem State.sealOffers_maps : s.sealOffers.maps = s.maps := rfl
@[simp] theorem State.sealOffers_chans : s.sealOffers.chans = s.chans := rfl
@[simp] theorem State.sealOffers_cache : s.sealOffers.cache = s.cache := rfl
@[simp] theorem State.sealOffers_alertSeen : s.sealOffers.alertSeen = s.alertSeen := rfl
@[simp] theorem State.sealOffers_budget : s.sealOffers.budget = s.budget := rfl
@[simp] theorem State.sealOffers_pending : s.sealOffers.pending = s.pending := rfl
@[simp] theorem State.sealOffers_offers : s.sealOffers.offered.offers = [] := rfl
@[simp] theorem State.sealOffers_before : s.sealOffers.offered.before = [] := rfl

end

/-! ## The line state -/

section
variable (s : State) (l : LineState)

@[simp] theorem State.setLine_hold : (s.setLine l).hold = s.hold := rfl
@[simp] theorem State.setLine_stc : (s.setLine l).stc = s.stc := rfl
@[simp] theorem State.setLine_common : (s.setLine l).common = s.common := rfl
@[simp] theorem State.setLine_sched : (s.setLine l).sched = s.sched := rfl
@[simp] theorem State.setLine_clock : (s.setLine l).clock = s.clock := rfl
@[simp] theorem State.setLine_flash : (s.setLine l).flash = s.flash := rfl
@[simp] theorem State.setLine_intrinsics : (s.setLine l).intrinsics = s.intrinsics := rfl
@[simp] theorem State.setLine_txq : (s.setLine l).txq = s.txq := rfl
@[simp] theorem State.setLine_peers : (s.setLine l).peers = s.peers := rfl
@[simp] theorem State.setLine_expected : (s.setLine l).expected = s.expected := rfl
@[simp] theorem State.setLine_itm : (s.setLine l).itm = s.itm := rfl
@[simp] theorem State.setLine_origins : (s.setLine l).origins = s.origins := rfl
@[simp] theorem State.setLine_view : (s.setLine l).view = s.view := rfl
@[simp] theorem State.setLine_maps : (s.setLine l).maps = s.maps := rfl
@[simp] theorem State.setLine_chans : (s.setLine l).chans = s.chans := rfl
@[simp] theorem State.setLine_cache : (s.setLine l).cache = s.cache := rfl
@[simp] theorem State.setLine_alertSeen : (s.setLine l).alertSeen = s.alertSeen := rfl
@[simp] theorem State.setLine_budget : (s.setLine l).budget = s.budget := rfl
@[simp] theorem State.setLine_pending : (s.setLine l).pending = s.pending := rfl
@[simp] theorem State.setLine_offered : (s.setLine l).offered = s.offered := rfl
@[simp] theorem State.setLine_lif_listenOnly : (s.setLine l).lif.listenOnly = s.lif.listenOnly := rfl
@[simp] theorem State.setLine_lif_capture : (s.setLine l).lif.capture = s.lif.capture := rfl
@[simp] theorem State.setLine_lif_ownError : (s.setLine l).lif.ownError = s.lif.ownError := rfl
@[simp] theorem State.setLine_lif_frame : (s.setLine l).lif.frame = s.lif.frame := rfl
@[simp] theorem State.setLine_lif_counters : (s.setLine l).lif.counters = s.lif.counters := rfl
@[simp] theorem State.setLine_lif_line : (s.setLine l).lif.line = l := rfl
@[simp] theorem State.setLine_lif_recessive : (s.setLine l).lif.recessive = 0 := rfl
@[simp] theorem State.setLine_lif_dominant : (s.setLine l).lif.dominant = 0 := rfl
@[simp] theorem State.waitGap_hold (g : Nat) : (s.waitGap g).hold = s.hold := rfl
@[simp] theorem State.waitGap_stc (g : Nat) : (s.waitGap g).stc = s.stc := rfl
@[simp] theorem State.waitGap_common (g : Nat) : (s.waitGap g).common = s.common := rfl
@[simp] theorem State.waitGap_sched (g : Nat) : (s.waitGap g).sched = s.sched := rfl
@[simp] theorem State.waitGap_clock (g : Nat) : (s.waitGap g).clock = s.clock := rfl
@[simp] theorem State.waitGap_flash (g : Nat) : (s.waitGap g).flash = s.flash := rfl
@[simp] theorem State.waitGap_intrinsics (g : Nat) : (s.waitGap g).intrinsics = s.intrinsics := rfl
@[simp] theorem State.waitGap_txq (g : Nat) : (s.waitGap g).txq = s.txq := rfl
@[simp] theorem State.waitGap_peers (g : Nat) : (s.waitGap g).peers = s.peers := rfl
@[simp] theorem State.waitGap_expected (g : Nat) : (s.waitGap g).expected = s.expected := rfl
@[simp] theorem State.waitGap_itm (g : Nat) : (s.waitGap g).itm = s.itm := rfl
@[simp] theorem State.waitGap_origins (g : Nat) : (s.waitGap g).origins = s.origins := rfl
@[simp] theorem State.waitGap_view (g : Nat) : (s.waitGap g).view = s.view := rfl
@[simp] theorem State.waitGap_maps (g : Nat) : (s.waitGap g).maps = s.maps := rfl
@[simp] theorem State.waitGap_chans (g : Nat) : (s.waitGap g).chans = s.chans := rfl
@[simp] theorem State.waitGap_cache (g : Nat) : (s.waitGap g).cache = s.cache := rfl
@[simp] theorem State.waitGap_alertSeen (g : Nat) : (s.waitGap g).alertSeen = s.alertSeen := rfl
@[simp] theorem State.waitGap_budget (g : Nat) : (s.waitGap g).budget = s.budget := rfl
@[simp] theorem State.waitGap_pending (g : Nat) : (s.waitGap g).pending = s.pending := rfl
@[simp] theorem State.waitGap_offered (g : Nat) : (s.waitGap g).offered = s.offered := rfl
@[simp] theorem State.waitGap_lif (g : Nat) : (s.waitGap g).lif = { s.lif with recessive := 0, dominant := g } := rfl

end

/-! ## Driving stops -/

section
variable (s : State) (b : Bool)

@[simp] theorem State.stopDriving_hold : (s.stopDriving b).hold = s.hold := rfl
@[simp] theorem State.stopDriving_stc : (s.stopDriving b).stc = s.stc := rfl
@[simp] theorem State.stopDriving_common : (s.stopDriving b).common = s.common := rfl
@[simp] theorem State.stopDriving_sched : (s.stopDriving b).sched = s.sched := rfl
@[simp] theorem State.stopDriving_clock : (s.stopDriving b).clock = s.clock := rfl
@[simp] theorem State.stopDriving_flash : (s.stopDriving b).flash = s.flash := rfl
@[simp] theorem State.stopDriving_intrinsics : (s.stopDriving b).intrinsics = s.intrinsics := rfl
@[simp] theorem State.stopDriving_txq : (s.stopDriving b).txq = s.txq := rfl
@[simp] theorem State.stopDriving_peers : (s.stopDriving b).peers = s.peers := rfl
@[simp] theorem State.stopDriving_expected : (s.stopDriving b).expected = s.expected := rfl
@[simp] theorem State.stopDriving_itm : (s.stopDriving b).itm = s.itm := rfl
@[simp] theorem State.stopDriving_origins : (s.stopDriving b).origins = s.origins := rfl
@[simp] theorem State.stopDriving_view : (s.stopDriving b).view = s.view := rfl
@[simp] theorem State.stopDriving_maps : (s.stopDriving b).maps = s.maps := rfl
@[simp] theorem State.stopDriving_chans : (s.stopDriving b).chans = s.chans := rfl
@[simp] theorem State.stopDriving_cache : (s.stopDriving b).cache = s.cache := rfl
@[simp] theorem State.stopDriving_alertSeen : (s.stopDriving b).alertSeen = s.alertSeen := rfl
@[simp] theorem State.stopDriving_budget : (s.stopDriving b).budget = s.budget := rfl
@[simp] theorem State.stopDriving_pending : (s.stopDriving b).pending = s.pending := rfl
@[simp] theorem State.stopDriving_offered : (s.stopDriving b).offered = s.offered := rfl
@[simp] theorem State.stopDriving_lif_listenOnly : (s.stopDriving b).lif.listenOnly = s.lif.listenOnly := rfl
@[simp] theorem State.stopDriving_lif_capture : (s.stopDriving b).lif.capture = s.lif.capture := rfl
@[simp] theorem State.stopDriving_lif_counters : (s.stopDriving b).lif.counters = s.lif.counters := rfl
@[simp] theorem State.stopDriving_lif_recessive : (s.stopDriving b).lif.recessive = s.lif.recessive := rfl
@[simp] theorem State.stopDriving_lif_dominant : (s.stopDriving b).lif.dominant = s.lif.dominant := rfl
@[simp] theorem State.stopDriving_lif_line : (s.stopDriving b).lif.line = .receiving := rfl
@[simp] theorem State.stopDriving_lif_frame : (s.stopDriving b).lif.frame = [] := rfl
@[simp] theorem State.stopDriving_lif_ownError : (s.stopDriving b).lif.ownError = b := rfl

end

/-! ## The line is released -/

section
variable (s : State) 

@[simp] theorem State.releaseAll_hold : (s.releaseAll).hold = s.hold := rfl
@[simp] theorem State.releaseAll_stc : (s.releaseAll).stc = s.stc := rfl
@[simp] theorem State.releaseAll_common : (s.releaseAll).common = s.common := rfl
@[simp] theorem State.releaseAll_sched : (s.releaseAll).sched = s.sched := rfl
@[simp] theorem State.releaseAll_clock : (s.releaseAll).clock = s.clock := rfl
@[simp] theorem State.releaseAll_flash : (s.releaseAll).flash = s.flash := rfl
@[simp] theorem State.releaseAll_intrinsics : (s.releaseAll).intrinsics = s.intrinsics := rfl
@[simp] theorem State.releaseAll_txq : (s.releaseAll).txq = s.txq := rfl
@[simp] theorem State.releaseAll_peers : (s.releaseAll).peers = s.peers := rfl
@[simp] theorem State.releaseAll_expected : (s.releaseAll).expected = s.expected := rfl
@[simp] theorem State.releaseAll_itm : (s.releaseAll).itm = s.itm := rfl
@[simp] theorem State.releaseAll_origins : (s.releaseAll).origins = s.origins := rfl
@[simp] theorem State.releaseAll_view : (s.releaseAll).view = s.view := rfl
@[simp] theorem State.releaseAll_maps : (s.releaseAll).maps = s.maps := rfl
@[simp] theorem State.releaseAll_chans : (s.releaseAll).chans = s.chans := rfl
@[simp] theorem State.releaseAll_cache : (s.releaseAll).cache = s.cache := rfl
@[simp] theorem State.releaseAll_alertSeen : (s.releaseAll).alertSeen = s.alertSeen := rfl
@[simp] theorem State.releaseAll_budget : (s.releaseAll).budget = s.budget := rfl
@[simp] theorem State.releaseAll_pending : (s.releaseAll).pending = s.pending := rfl
@[simp] theorem State.releaseAll_offered : (s.releaseAll).offered = s.offered := rfl
@[simp] theorem State.releaseAll_lif_listenOnly : (s.releaseAll).lif.listenOnly = s.lif.listenOnly := rfl
@[simp] theorem State.releaseAll_lif_capture : (s.releaseAll).lif.capture = s.lif.capture := rfl
@[simp] theorem State.releaseAll_lif_ownError : (s.releaseAll).lif.ownError = s.lif.ownError := rfl
@[simp] theorem State.releaseAll_lif_counters : (s.releaseAll).lif.counters = s.lif.counters := rfl
@[simp] theorem State.releaseAll_lif_recessive : (s.releaseAll).lif.recessive = s.lif.recessive := rfl
@[simp] theorem State.releaseAll_lif_dominant : (s.releaseAll).lif.dominant = s.lif.dominant := rfl
@[simp] theorem State.releaseAll_lif_line : s.releaseAll.lif.line = .idle := rfl
@[simp] theorem State.releaseAll_lif_frame : s.releaseAll.lif.frame = [] := rfl

end

/-! ## A capture -/

section
variable (s : State) 

@[simp] theorem State.captureNow_hold : (s.captureNow).hold = s.hold := rfl
@[simp] theorem State.captureNow_stc : (s.captureNow).stc = s.stc := rfl
@[simp] theorem State.captureNow_common : (s.captureNow).common = s.common := rfl
@[simp] theorem State.captureNow_sched : (s.captureNow).sched = s.sched := rfl
@[simp] theorem State.captureNow_clock : (s.captureNow).clock = s.clock := rfl
@[simp] theorem State.captureNow_flash : (s.captureNow).flash = s.flash := rfl
@[simp] theorem State.captureNow_intrinsics : (s.captureNow).intrinsics = s.intrinsics := rfl
@[simp] theorem State.captureNow_txq : (s.captureNow).txq = s.txq := rfl
@[simp] theorem State.captureNow_peers : (s.captureNow).peers = s.peers := rfl
@[simp] theorem State.captureNow_expected : (s.captureNow).expected = s.expected := rfl
@[simp] theorem State.captureNow_itm : (s.captureNow).itm = s.itm := rfl
@[simp] theorem State.captureNow_origins : (s.captureNow).origins = s.origins := rfl
@[simp] theorem State.captureNow_view : (s.captureNow).view = s.view := rfl
@[simp] theorem State.captureNow_maps : (s.captureNow).maps = s.maps := rfl
@[simp] theorem State.captureNow_chans : (s.captureNow).chans = s.chans := rfl
@[simp] theorem State.captureNow_cache : (s.captureNow).cache = s.cache := rfl
@[simp] theorem State.captureNow_alertSeen : (s.captureNow).alertSeen = s.alertSeen := rfl
@[simp] theorem State.captureNow_budget : (s.captureNow).budget = s.budget := rfl
@[simp] theorem State.captureNow_pending : (s.captureNow).pending = s.pending := rfl
@[simp] theorem State.captureNow_offered : (s.captureNow).offered = s.offered := rfl
@[simp] theorem State.captureNow_lif_listenOnly : (s.captureNow).lif.listenOnly = s.lif.listenOnly := rfl
@[simp] theorem State.captureNow_lif_ownError : (s.captureNow).lif.ownError = s.lif.ownError := rfl
@[simp] theorem State.captureNow_lif_frame : (s.captureNow).lif.frame = s.lif.frame := rfl
@[simp] theorem State.captureNow_lif_counters : (s.captureNow).lif.counters = s.lif.counters := rfl
@[simp] theorem State.captureNow_lif_recessive : (s.captureNow).lif.recessive = s.lif.recessive := rfl
@[simp] theorem State.captureNow_lif_dominant : (s.captureNow).lif.dominant = s.lif.dominant := rfl
@[simp] theorem State.captureNow_lif_line : (s.captureNow).lif.line = s.lif.line := rfl
@[simp] theorem State.captureNow_lif_capture : s.captureNow.lif.capture = { beat := s.clock.b, position := s.clock.position, boundaries := 0, elapsed := 0 } := rfl

end

/-! ## Overflow -/

section
variable (s : State) 

@[simp] theorem State.countOverflow_hold : (s.countOverflow).hold = s.hold := rfl
@[simp] theorem State.countOverflow_stc : (s.countOverflow).stc = s.stc := rfl
@[simp] theorem State.countOverflow_common : (s.countOverflow).common = s.common := rfl
@[simp] theorem State.countOverflow_sched : (s.countOverflow).sched = s.sched := rfl
@[simp] theorem State.countOverflow_clock : (s.countOverflow).clock = s.clock := rfl
@[simp] theorem State.countOverflow_flash : (s.countOverflow).flash = s.flash := rfl
@[simp] theorem State.countOverflow_intrinsics : (s.countOverflow).intrinsics = s.intrinsics := rfl
@[simp] theorem State.countOverflow_txq : (s.countOverflow).txq = s.txq := rfl
@[simp] theorem State.countOverflow_peers : (s.countOverflow).peers = s.peers := rfl
@[simp] theorem State.countOverflow_expected : (s.countOverflow).expected = s.expected := rfl
@[simp] theorem State.countOverflow_itm : (s.countOverflow).itm = s.itm := rfl
@[simp] theorem State.countOverflow_origins : (s.countOverflow).origins = s.origins := rfl
@[simp] theorem State.countOverflow_view : (s.countOverflow).view = s.view := rfl
@[simp] theorem State.countOverflow_maps : (s.countOverflow).maps = s.maps := rfl
@[simp] theorem State.countOverflow_chans : (s.countOverflow).chans = s.chans := rfl
@[simp] theorem State.countOverflow_cache : (s.countOverflow).cache = s.cache := rfl
@[simp] theorem State.countOverflow_alertSeen : (s.countOverflow).alertSeen = s.alertSeen := rfl
@[simp] theorem State.countOverflow_budget : (s.countOverflow).budget = s.budget := rfl
@[simp] theorem State.countOverflow_pending : (s.countOverflow).pending = s.pending := rfl
@[simp] theorem State.countOverflow_offered : (s.countOverflow).offered = s.offered := rfl
@[simp] theorem State.countOverflow_lif_listenOnly : (s.countOverflow).lif.listenOnly = s.lif.listenOnly := rfl
@[simp] theorem State.countOverflow_lif_capture : (s.countOverflow).lif.capture = s.lif.capture := rfl
@[simp] theorem State.countOverflow_lif_ownError : (s.countOverflow).lif.ownError = s.lif.ownError := rfl
@[simp] theorem State.countOverflow_lif_frame : (s.countOverflow).lif.frame = s.lif.frame := rfl
@[simp] theorem State.countOverflow_lif_recessive : (s.countOverflow).lif.recessive = s.lif.recessive := rfl
@[simp] theorem State.countOverflow_lif_dominant : (s.countOverflow).lif.dominant = s.lif.dominant := rfl
@[simp] theorem State.countOverflow_lif_line : (s.countOverflow).lif.line = s.lif.line := rfl

end

/-! ## Bit errors -/

section
variable (s : State) (d : Bool)

@[simp] theorem State.countBitError_hold : (s.countBitError d).hold = s.hold := rfl
@[simp] theorem State.countBitError_stc : (s.countBitError d).stc = s.stc := rfl
@[simp] theorem State.countBitError_common : (s.countBitError d).common = s.common := rfl
@[simp] theorem State.countBitError_sched : (s.countBitError d).sched = s.sched := rfl
@[simp] theorem State.countBitError_clock : (s.countBitError d).clock = s.clock := rfl
@[simp] theorem State.countBitError_flash : (s.countBitError d).flash = s.flash := rfl
@[simp] theorem State.countBitError_intrinsics : (s.countBitError d).intrinsics = s.intrinsics := rfl
@[simp] theorem State.countBitError_txq : (s.countBitError d).txq = s.txq := rfl
@[simp] theorem State.countBitError_peers : (s.countBitError d).peers = s.peers := rfl
@[simp] theorem State.countBitError_expected : (s.countBitError d).expected = s.expected := rfl
@[simp] theorem State.countBitError_itm : (s.countBitError d).itm = s.itm := rfl
@[simp] theorem State.countBitError_origins : (s.countBitError d).origins = s.origins := rfl
@[simp] theorem State.countBitError_view : (s.countBitError d).view = s.view := rfl
@[simp] theorem State.countBitError_maps : (s.countBitError d).maps = s.maps := rfl
@[simp] theorem State.countBitError_chans : (s.countBitError d).chans = s.chans := rfl
@[simp] theorem State.countBitError_cache : (s.countBitError d).cache = s.cache := rfl
@[simp] theorem State.countBitError_alertSeen : (s.countBitError d).alertSeen = s.alertSeen := rfl
@[simp] theorem State.countBitError_budget : (s.countBitError d).budget = s.budget := rfl
@[simp] theorem State.countBitError_pending : (s.countBitError d).pending = s.pending := rfl
@[simp] theorem State.countBitError_offered : (s.countBitError d).offered = s.offered := rfl
@[simp] theorem State.countBitError_lif_listenOnly : (s.countBitError d).lif.listenOnly = s.lif.listenOnly := rfl
@[simp] theorem State.countBitError_lif_capture : (s.countBitError d).lif.capture = s.lif.capture := rfl
@[simp] theorem State.countBitError_lif_ownError : (s.countBitError d).lif.ownError = s.lif.ownError := rfl
@[simp] theorem State.countBitError_lif_frame : (s.countBitError d).lif.frame = s.lif.frame := rfl
@[simp] theorem State.countBitError_lif_recessive : (s.countBitError d).lif.recessive = s.lif.recessive := rfl
@[simp] theorem State.countBitError_lif_dominant : (s.countBitError d).lif.dominant = s.lif.dominant := rfl
@[simp] theorem State.countBitError_lif_line : (s.countBitError d).lif.line = s.lif.line := rfl

end

/-! ## A lost parking STATUS -/

section
variable (s : State) 

@[simp] theorem State.parkingFailed_hold : (s.parkingFailed).hold = s.hold := rfl
@[simp] theorem State.parkingFailed_common : (s.parkingFailed).common = s.common := rfl
@[simp] theorem State.parkingFailed_clock : (s.parkingFailed).clock = s.clock := rfl
@[simp] theorem State.parkingFailed_flash : (s.parkingFailed).flash = s.flash := rfl
@[simp] theorem State.parkingFailed_intrinsics : (s.parkingFailed).intrinsics = s.intrinsics := rfl
@[simp] theorem State.parkingFailed_lif : (s.parkingFailed).lif = s.lif := rfl
@[simp] theorem State.parkingFailed_txq : (s.parkingFailed).txq = s.txq := rfl
@[simp] theorem State.parkingFailed_peers : (s.parkingFailed).peers = s.peers := rfl
@[simp] theorem State.parkingFailed_expected : (s.parkingFailed).expected = s.expected := rfl
@[simp] theorem State.parkingFailed_itm : (s.parkingFailed).itm = s.itm := rfl
@[simp] theorem State.parkingFailed_origins : (s.parkingFailed).origins = s.origins := rfl
@[simp] theorem State.parkingFailed_view : (s.parkingFailed).view = s.view := rfl
@[simp] theorem State.parkingFailed_maps : (s.parkingFailed).maps = s.maps := rfl
@[simp] theorem State.parkingFailed_chans : (s.parkingFailed).chans = s.chans := rfl
@[simp] theorem State.parkingFailed_cache : (s.parkingFailed).cache = s.cache := rfl
@[simp] theorem State.parkingFailed_alertSeen : (s.parkingFailed).alertSeen = s.alertSeen := rfl
@[simp] theorem State.parkingFailed_budget : (s.parkingFailed).budget = s.budget := rfl
@[simp] theorem State.parkingFailed_pending : (s.parkingFailed).pending = s.pending := rfl
@[simp] theorem State.parkingFailed_offered : (s.parkingFailed).offered = s.offered := rfl
@[simp] theorem State.parkingFailed_state : s.parkingFailed.stc.state = s.stc.state := rfl
@[simp] theorem State.parkingFailed_own : s.parkingFailed.stc.own = s.stc.own := rfl

end

/-! ## Staging -/

section
variable (s : State) (fs : List Nat)

@[simp] theorem State.stageFunctions_hold : (s.stageFunctions fs).hold = s.hold := rfl
@[simp] theorem State.stageFunctions_stc : (s.stageFunctions fs).stc = s.stc := rfl
@[simp] theorem State.stageFunctions_common : (s.stageFunctions fs).common = s.common := rfl
@[simp] theorem State.stageFunctions_sched : (s.stageFunctions fs).sched = s.sched := rfl
@[simp] theorem State.stageFunctions_clock : (s.stageFunctions fs).clock = s.clock := rfl
@[simp] theorem State.stageFunctions_flash : (s.stageFunctions fs).flash = s.flash := rfl
@[simp] theorem State.stageFunctions_lif : (s.stageFunctions fs).lif = s.lif := rfl
@[simp] theorem State.stageFunctions_txq : (s.stageFunctions fs).txq = s.txq := rfl
@[simp] theorem State.stageFunctions_peers : (s.stageFunctions fs).peers = s.peers := rfl
@[simp] theorem State.stageFunctions_expected : (s.stageFunctions fs).expected = s.expected := rfl
@[simp] theorem State.stageFunctions_itm : (s.stageFunctions fs).itm = s.itm := rfl
@[simp] theorem State.stageFunctions_origins : (s.stageFunctions fs).origins = s.origins := rfl
@[simp] theorem State.stageFunctions_view : (s.stageFunctions fs).view = s.view := rfl
@[simp] theorem State.stageFunctions_maps : (s.stageFunctions fs).maps = s.maps := rfl
@[simp] theorem State.stageFunctions_cache : (s.stageFunctions fs).cache = s.cache := rfl
@[simp] theorem State.stageFunctions_alertSeen : (s.stageFunctions fs).alertSeen = s.alertSeen := rfl
@[simp] theorem State.stageFunctions_budget : (s.stageFunctions fs).budget = s.budget := rfl
@[simp] theorem State.stageFunctions_pending : (s.stageFunctions fs).pending = s.pending := rfl
@[simp] theorem State.stageFunctions_offered : (s.stageFunctions fs).offered = s.offered := rfl

end

/-! ## Demands -/

section
variable (s : State) 

@[simp] theorem State.formDemands_hold : (s.formDemands).hold = s.hold := rfl
@[simp] theorem State.formDemands_stc : (s.formDemands).stc = s.stc := rfl
@[simp] theorem State.formDemands_common : (s.formDemands).common = s.common := rfl
@[simp] theorem State.formDemands_sched : (s.formDemands).sched = s.sched := rfl
@[simp] theorem State.formDemands_clock : (s.formDemands).clock = s.clock := rfl
@[simp] theorem State.formDemands_flash : (s.formDemands).flash = s.flash := rfl
@[simp] theorem State.formDemands_intrinsics : (s.formDemands).intrinsics = s.intrinsics := rfl
@[simp] theorem State.formDemands_lif : (s.formDemands).lif = s.lif := rfl
@[simp] theorem State.formDemands_txq : (s.formDemands).txq = s.txq := rfl
@[simp] theorem State.formDemands_peers : (s.formDemands).peers = s.peers := rfl
@[simp] theorem State.formDemands_expected : (s.formDemands).expected = s.expected := rfl
@[simp] theorem State.formDemands_itm : (s.formDemands).itm = s.itm := rfl
@[simp] theorem State.formDemands_origins : (s.formDemands).origins = s.origins := rfl
@[simp] theorem State.formDemands_view : (s.formDemands).view = s.view := rfl
@[simp] theorem State.formDemands_maps : (s.formDemands).maps = s.maps := rfl
@[simp] theorem State.formDemands_chans : (s.formDemands).chans = s.chans := rfl
@[simp] theorem State.formDemands_cache : (s.formDemands).cache = s.cache := rfl
@[simp] theorem State.formDemands_alertSeen : (s.formDemands).alertSeen = s.alertSeen := rfl
@[simp] theorem State.formDemands_pending : (s.formDemands).pending = s.pending := rfl
@[simp] theorem State.formDemands_offered : (s.formDemands).offered = s.offered := rfl

end

/-! ## Judging the budget -/

section
variable (s : State) (sag : Bool) (com : CommonSection)

@[simp] theorem State.judgeBudget_hold : (s.judgeBudget sag com).hold = s.hold := rfl
@[simp] theorem State.judgeBudget_stc : (s.judgeBudget sag com).stc = s.stc := rfl
@[simp] theorem State.judgeBudget_common : (s.judgeBudget sag com).common = s.common := rfl
@[simp] theorem State.judgeBudget_sched : (s.judgeBudget sag com).sched = s.sched := rfl
@[simp] theorem State.judgeBudget_clock : (s.judgeBudget sag com).clock = s.clock := rfl
@[simp] theorem State.judgeBudget_flash : (s.judgeBudget sag com).flash = s.flash := rfl
@[simp] theorem State.judgeBudget_intrinsics : (s.judgeBudget sag com).intrinsics = s.intrinsics := rfl
@[simp] theorem State.judgeBudget_lif : (s.judgeBudget sag com).lif = s.lif := rfl
@[simp] theorem State.judgeBudget_txq : (s.judgeBudget sag com).txq = s.txq := rfl
@[simp] theorem State.judgeBudget_peers : (s.judgeBudget sag com).peers = s.peers := rfl
@[simp] theorem State.judgeBudget_expected : (s.judgeBudget sag com).expected = s.expected := rfl
@[simp] theorem State.judgeBudget_itm : (s.judgeBudget sag com).itm = s.itm := rfl
@[simp] theorem State.judgeBudget_origins : (s.judgeBudget sag com).origins = s.origins := rfl
@[simp] theorem State.judgeBudget_view : (s.judgeBudget sag com).view = s.view := rfl
@[simp] theorem State.judgeBudget_maps : (s.judgeBudget sag com).maps = s.maps := rfl
@[simp] theorem State.judgeBudget_chans : (s.judgeBudget sag com).chans = s.chans := rfl
@[simp] theorem State.judgeBudget_cache : (s.judgeBudget sag com).cache = s.cache := rfl
@[simp] theorem State.judgeBudget_alertSeen : (s.judgeBudget sag com).alertSeen = s.alertSeen := rfl
@[simp] theorem State.judgeBudget_pending : (s.judgeBudget sag com).pending = s.pending := rfl
@[simp] theorem State.judgeBudget_offered : (s.judgeBudget sag com).offered = s.offered := rfl

end

/-! ## What an instant found of a channel -/

section
variable (c : Channel) (b : DriveBase) (now : Nat) (forms ended : Bool)

@[simp] theorem Channel.based_prof : (c.based now forms ended).prof = c.prof := rfl
@[simp] theorem Channel.based_demand : (c.based now forms ended).demand = c.demand := rfl
@[simp] theorem Channel.based_staged : (c.based now forms ended).staged = c.staged := rfl
@[simp] theorem Channel.based_taken : (c.based now forms ended).taken = c.taken := rfl
@[simp] theorem Channel.based_test : (c.based now forms ended).test = c.test := rfl
@[simp] theorem Channel.based_composed : (c.based now forms ended).composed = c.composed := rfl
@[simp] theorem Channel.based_target : (c.based now forms ended).target = c.target := rfl
@[simp] theorem Channel.based_applied : (c.based now forms ended).applied = c.applied := rfl
@[simp] theorem Channel.based_underSupply : (c.based now forms ended).underSupply = c.underSupply := rfl
@[simp] theorem Channel.based_protection : (c.based now forms ended).protection = c.protection := rfl
@[simp] theorem Channel.based_cause : (c.based now forms ended).cause = c.cause := rfl
@[simp] theorem Channel.based_trips : (c.based now forms ended).trips = c.trips := rfl
@[simp] theorem Channel.based_openFlag : (c.based now forms ended).openFlag = c.openFlag := rfl
@[simp] theorem Channel.based_iOn : (c.based now forms ended).iOn = c.iOn := rfl
@[simp] theorem Channel.based_vt : (c.based now forms ended).vt = c.vt := rfl
@[simp] theorem Channel.based_q : (c.based now forms ended).q = c.q := rfl
@[simp] theorem Channel.based_p : (c.based now forms ended).p = c.p := rfl
@[simp] theorem Channel.based_d : (c.based now forms ended).d = c.d := rfl
@[simp] theorem Channel.based_sum : (c.based now forms ended).sum = c.sum := rfl
@[simp] theorem Channel.based_number : (c.based now forms ended).number = c.number := rfl
@[simp] theorem Channel.based_blanking : (c.based now forms ended).blanking = c.blanking := rfl
@[simp] theorem Channel.based_overcurrent : (c.based now forms ended).overcurrent = c.overcurrent := rfl
@[simp] theorem Channel.based_openCount : (c.based now forms ended).openCount = c.openCount := rfl
@[simp] theorem Channel.based_wait : (c.based now forms ended).wait = c.wait := rfl
@[simp] theorem Channel.based_normalRun : (c.based now forms ended).normalRun = c.normalRun := rfl
@[simp] theorem Channel.based_release : (c.based now forms ended).release = c.release := rfl
@[simp] theorem Channel.based_window : (c.based now forms ended).window = c.window := rfl
@[simp] theorem Channel.based_peak : (c.based now forms ended).peak = c.peak := rfl
@[simp] theorem Channel.based_driven : (c.based now forms ended).driven = c.driven := rfl
@[simp] theorem Channel.based_dutyHeld : (c.based now forms ended).dutyHeld = c.dutyHeld := rfl
@[simp] theorem Channel.based_normalSince : (c.based now forms ended).normalSince = c.normalSince := rfl
@[simp] theorem Channel.based_shortDue : (c.based now forms ended).shortDue = c.shortDue := rfl
@[simp] theorem Channel.based_base : (c.based now forms ended).base = some (c.figures now forms ended) := rfl
@[simp] theorem Channel.withFigures_prof : (c.withFigures b).prof = c.prof := rfl
@[simp] theorem Channel.withFigures_demand : (c.withFigures b).demand = c.demand := rfl
@[simp] theorem Channel.withFigures_staged : (c.withFigures b).staged = c.staged := rfl
@[simp] theorem Channel.withFigures_taken : (c.withFigures b).taken = c.taken := rfl
@[simp] theorem Channel.withFigures_test : (c.withFigures b).test = c.test := rfl
@[simp] theorem Channel.withFigures_cause : (c.withFigures b).cause = c.cause := rfl
@[simp] theorem Channel.withFigures_trips : (c.withFigures b).trips = c.trips := rfl
@[simp] theorem Channel.withFigures_openFlag : (c.withFigures b).openFlag = c.openFlag := rfl
@[simp] theorem Channel.withFigures_iOn : (c.withFigures b).iOn = c.iOn := rfl
@[simp] theorem Channel.withFigures_p : (c.withFigures b).p = c.p := rfl
@[simp] theorem Channel.withFigures_d : (c.withFigures b).d = c.d := rfl
@[simp] theorem Channel.withFigures_sum : (c.withFigures b).sum = c.sum := rfl
@[simp] theorem Channel.withFigures_number : (c.withFigures b).number = c.number := rfl
@[simp] theorem Channel.withFigures_wait : (c.withFigures b).wait = c.wait := rfl
@[simp] theorem Channel.withFigures_normalRun : (c.withFigures b).normalRun = c.normalRun := rfl
@[simp] theorem Channel.withFigures_release : (c.withFigures b).release = c.release := rfl
@[simp] theorem Channel.withFigures_peak : (c.withFigures b).peak = c.peak := rfl
@[simp] theorem Channel.withFigures_driven : (c.withFigures b).driven = c.driven := rfl
@[simp] theorem Channel.withFigures_dutyHeld : (c.withFigures b).dutyHeld = c.dutyHeld := rfl
@[simp] theorem Channel.withFigures_shortDue : (c.withFigures b).shortDue = c.shortDue := rfl
@[simp] theorem Channel.withFigures_base : (c.withFigures b).base = c.base := rfl
@[simp] theorem Channel.withFigures_composed : (c.withFigures b).composed = b.composed := rfl
@[simp] theorem Channel.withFigures_target : (c.withFigures b).target = b.target := rfl
@[simp] theorem Channel.withFigures_applied : (c.withFigures b).applied = b.applied := rfl
@[simp] theorem Channel.withFigures_vt : (c.withFigures b).vt = b.vt := rfl
@[simp] theorem Channel.withFigures_q : (c.withFigures b).q = b.q := rfl
@[simp] theorem Channel.withFigures_underSupply : (c.withFigures b).underSupply = b.underSupply := rfl
@[simp] theorem Channel.withFigures_protection : (c.withFigures b).protection = b.protection := rfl
@[simp] theorem Channel.withFigures_blanking : (c.withFigures b).blanking = b.blanking := rfl
@[simp] theorem Channel.withFigures_overcurrent : (c.withFigures b).overcurrent = b.overcurrent := rfl
@[simp] theorem Channel.withFigures_openCount : (c.withFigures b).openCount = b.openCount := rfl
@[simp] theorem Channel.withFigures_normalSince : (c.withFigures b).normalSince = b.normalSince := rfl
@[simp] theorem Channel.withFigures_window : (c.withFigures b).window = b.window := rfl
@[simp] theorem Channel.figures_composed : (c.figures now forms ended).composed = c.composed := rfl
@[simp] theorem Channel.figures_target : (c.figures now forms ended).target = c.target := rfl
@[simp] theorem Channel.figures_applied : (c.figures now forms ended).applied = c.applied := rfl
@[simp] theorem Channel.figures_vt : (c.figures now forms ended).vt = c.vt := rfl
@[simp] theorem Channel.figures_q : (c.figures now forms ended).q = c.q := rfl
@[simp] theorem Channel.figures_underSupply : (c.figures now forms ended).underSupply = c.underSupply := rfl
@[simp] theorem Channel.figures_protection : (c.figures now forms ended).protection = c.protection := rfl
@[simp] theorem Channel.figures_blanking : (c.figures now forms ended).blanking = c.blanking := rfl
@[simp] theorem Channel.figures_overcurrent : (c.figures now forms ended).overcurrent = c.overcurrent := rfl
@[simp] theorem Channel.figures_openCount : (c.figures now forms ended).openCount = c.openCount := rfl
@[simp] theorem Channel.figures_normalSince : (c.figures now forms ended).normalSince = c.normalSince := rfl
@[simp] theorem Channel.figures_window : (c.figures now forms ended).window = c.window := rfl
@[simp] theorem Channel.figures_instant : (c.figures now forms ended).instant = now := rfl
@[simp] theorem Channel.figures_forms : (c.figures now forms ended).forms = forms := rfl
@[simp] theorem Channel.figures_waitEnded : (c.figures now forms ended).waitEnded = ended := rfl
@[simp] theorem Channel.figures_driveable : (c.figures now forms ended).driveable = c.driveable := rfl

/-- What an instant found and noted is what its base says at that instant. -/
@[simp] theorem Channel.baseAt_based : (c.based now forms ended).baseAt now = some (c.figures now forms ended) := by
  simp [Channel.baseAt, Option.filter, Channel.figures, Channel.based]

/-- Without a base there is nothing to go back to. -/
theorem Channel.rewound_of_base_none {c : Channel} (h : c.base = none) (now : Nat) : c.rewound now = c := by
  simp [Channel.rewound, Channel.baseAt, h]

/-- A base of another instant is nothing to go back to. -/
theorem Channel.rewound_of_instant_ne {c : Channel} {now : Nat} (h : ∀ b, c.base = some b → b.instant ≠ now) :
    c.rewound now = c := by
  unfold Channel.rewound Channel.baseAt
  cases hb : c.base with
  | none => simp
  | some b => simp [Option.filter, h b hb]

end

/-! ## One channel, one peer -/

@[simp] theorem State.chan_modifyChan_self (s : State) (n : ChannelNo) (f : Channel → Channel) :
    (s.modifyChan n f).chan n = (s.chan n).map f := by simp [State.chan]

theorem State.chan_modifyChan_ne (s : State) {n m : ChannelNo} (h : m ≠ n) (f : Channel → Channel) :
    (s.modifyChan n f).chan m = s.chan m := by simp [State.chan, tableGet_tableModify_ne h]

@[simp] theorem State.chan_mapChans (s : State) (n : ChannelNo) (f : ChannelNo → Channel → Channel) :
    (s.mapChans f).chan n = (s.chan n).map (f n) := by simp [State.chan]

/-! ## A start bit on the present grid -/

/-- Where a start bit of some time ago stands on the present grid: within a beat, and the boundaries since it count the
time between (R68, R69). -/
theorem start_on_grid {position elapsed : Nat} (hp : position ≤ 20000) (he : 0 < elapsed) :
    startPosition position elapsed < 20000 ∧
    20000 * startBoundaries position elapsed + position = elapsed + startPosition position elapsed := by
  simp only [startBoundaries, startPosition, Config.beat]
  omega

end Sys2Proof.Machine
end

