-- ==== Sys2Proof/Laws/Channel.lean ====
section
/-! SUPPORT. What the shared operations over one channel record can do: composition, drive, applied duty, the
boundary's forming, and a trip. Proofs cite these and unfold none of them. -/

namespace Sys2Proof.Machine

/-! ## The applied duty -/

/-- A duty that is set enters BLANKING with count 2, or changes nothing but the applied duty (R56, R105). -/
theorem Channel.setApplied_cases (duty : Nat) (c : Channel) :
    (c.applied = 0 ∧ 0 < duty ∧ c.setApplied duty =
      { c with applied := duty, protection := .blanking, blanking := 2, overcurrent := 0, openCount := 0,
               normalSince := false })
    ∨ (¬ (c.applied = 0 ∧ 0 < duty) ∧ c.setApplied duty = { c with applied := duty }) := by
  unfold Channel.setApplied
  split <;> simp_all

/-- The applied duty after it is set. -/
@[simp] theorem Channel.setApplied_applied (duty : Nat) (c : Channel) : (c.setApplied duty).applied = duty := by
  unfold Channel.setApplied; split <;> rfl

/-- A channel stays driven when its duty is set. -/
theorem Channel.setApplied_driveable {c : Channel} (h : c.driveable = true) (duty : Nat) :
    (c.setApplied duty).driveable = true := by
  unfold Channel.setApplied; split <;> simp_all [Channel.driveable]

/-- Closing a stall window changes the window alone. -/
theorem Channel.closeWindow_eq (held : Nat) (c : Channel) :
    c.closeWindow held = { c with window := if c.target = held then c.window
                                            else c.window.filter (fun w => w.left == 0) } := by
  unfold Channel.closeWindow; split <;> rfl

/-- A driven channel follows its target; a TRIPPED or LATCHED one keeps its duty (R56, R119). -/
theorem Channel.follow_cases (boundary : Bool) (held : Nat) (c : Channel) :
    (c.driveable = true ∧ c.follow boundary held = (c.closeWindow held).setApplied
      (if c.prof.kind = .fan then rampStep boundary c.applied c.target else c.target))
    ∨ (c.driveable = false ∧ c.follow boundary held = c.closeWindow held) := by
  have hd : (c.closeWindow held).driveable = c.driveable := by rw [Channel.closeWindow_eq]; rfl
  have hk : (c.closeWindow held).prof = c.prof := by rw [Channel.closeWindow_eq]
  have ha : (c.closeWindow held).applied = c.applied := by rw [Channel.closeWindow_eq]
  have ht : (c.closeWindow held).target = c.target := by rw [Channel.closeWindow_eq]
  cases h : c.driveable <;> simp [Channel.follow, hd, hk, ha, ht, h]

/-- A ramp never passes its target, and never leaves the larger of the two duties (R119). -/
theorem rampStep_le (boundary : Bool) (applied target : Nat) :
    rampStep boundary applied target ≤ max applied target := by
  unfold rampStep
  split
  · omega
  · split <;> omega

/-- One step raises the duty by at most 64 (R119). -/
theorem rampStep_le_add (boundary : Bool) (applied target : Nat) : rampStep boundary applied target ≤ applied + 64 := by
  unfold rampStep
  split
  · omega
  · split <;> omega

/-! ## A trip -/

/-- A TRIPPED or LATCHED channel sets a trip aside (R104). -/
theorem Channel.trip_of_not_driveable {c : Channel} (h : c.driveable = false) (cause : TripCause) :
    c.trip cause = c := by
  simp [Channel.trip, h]

/-- A driven channel that trips is dark and TRIPPED, or LATCHED at the third trip (R104). -/
theorem Channel.trip_of_driveable {c : Channel} (h : c.driveable = true) (cause : TripCause) :
    (c.trip cause).applied = 0 ∧ (c.trip cause).driven = 0 ∧ (c.trip cause).cause = some cause
      ∧ (c.trip cause).trips = min 3 (c.trips + 1)
      ∧ (c.trip cause).protection = (if 3 ≤ c.trips + 1 then .latched else .tripped)
      ∧ (c.trip cause).wait = (if 3 ≤ c.trips + 1 then 0 else retryWait cause)
      ∧ (c.trip cause).window = none ∧ (c.trip cause).base = none := by
  simp [Channel.trip, h]

/-! ## What composition leaves as it was -/

/-! ### setApplied -/

@[simp] theorem Channel.setApplied_prof (duty : Nat) (c : Channel) : (c.setApplied duty).prof = c.prof := by
  unfold Channel.setApplied; split <;> rfl
@[simp] theorem Channel.setApplied_demand (duty : Nat) (c : Channel) : (c.setApplied duty).demand = c.demand := by
  unfold Channel.setApplied; split <;> rfl
@[simp] theorem Channel.setApplied_staged (duty : Nat) (c : Channel) : (c.setApplied duty).staged = c.staged := by
  unfold Channel.setApplied; split <;> rfl
@[simp] theorem Channel.setApplied_taken (duty : Nat) (c : Channel) : (c.setApplied duty).taken = c.taken := by
  unfold Channel.setApplied; split <;> rfl
@[simp] theorem Channel.setApplied_test (duty : Nat) (c : Channel) : (c.setApplied duty).test = c.test := by
  unfold Channel.setApplied; split <;> rfl
@[simp] theorem Channel.setApplied_trips (duty : Nat) (c : Channel) : (c.setApplied duty).trips = c.trips := by
  unfold Channel.setApplied; split <;> rfl
@[simp] theorem Channel.setApplied_cause (duty : Nat) (c : Channel) : (c.setApplied duty).cause = c.cause := by
  unfold Channel.setApplied; split <;> rfl
@[simp] theorem Channel.setApplied_openFlag (duty : Nat) (c : Channel) :
    (c.setApplied duty).openFlag = c.openFlag := by
  unfold Channel.setApplied; split <;> rfl
@[simp] theorem Channel.setApplied_iOn (duty : Nat) (c : Channel) : (c.setApplied duty).iOn = c.iOn := by
  unfold Channel.setApplied; split <;> rfl
@[simp] theorem Channel.setApplied_p (duty : Nat) (c : Channel) : (c.setApplied duty).p = c.p := by
  unfold Channel.setApplied; split <;> rfl
@[simp] theorem Channel.setApplied_d (duty : Nat) (c : Channel) : (c.setApplied duty).d = c.d := by
  unfold Channel.setApplied; split <;> rfl
@[simp] theorem Channel.setApplied_sum (duty : Nat) (c : Channel) : (c.setApplied duty).sum = c.sum := by
  unfold Channel.setApplied; split <;> rfl
@[simp] theorem Channel.setApplied_number (duty : Nat) (c : Channel) : (c.setApplied duty).number = c.number := by
  unfold Channel.setApplied; split <;> rfl
@[simp] theorem Channel.setApplied_wait (duty : Nat) (c : Channel) : (c.setApplied duty).wait = c.wait := by
  unfold Channel.setApplied; split <;> rfl
@[simp] theorem Channel.setApplied_normalRun (duty : Nat) (c : Channel) :
    (c.setApplied duty).normalRun = c.normalRun := by
  unfold Channel.setApplied; split <;> rfl
@[simp] theorem Channel.setApplied_release (duty : Nat) (c : Channel) : (c.setApplied duty).release = c.release := by
  unfold Channel.setApplied; split <;> rfl
@[simp] theorem Channel.setApplied_peak (duty : Nat) (c : Channel) : (c.setApplied duty).peak = c.peak := by
  unfold Channel.setApplied; split <;> rfl
@[simp] theorem Channel.setApplied_driven (duty : Nat) (c : Channel) : (c.setApplied duty).driven = c.driven := by
  unfold Channel.setApplied; split <;> rfl
@[simp] theorem Channel.setApplied_shortDue (duty : Nat) (c : Channel) :
    (c.setApplied duty).shortDue = c.shortDue := by
  unfold Channel.setApplied; split <;> rfl
@[simp] theorem Channel.setApplied_openLeft (duty : Nat) (c : Channel) :
    (c.setApplied duty).openLeft = c.openLeft := by
  unfold Channel.setApplied; split <;> rfl
@[simp] theorem Channel.setApplied_needle (duty : Nat) (c : Channel) :
    (c.setApplied duty).needle = c.needle := by
  unfold Channel.setApplied; split <;> rfl

/-! ### closeWindow -/

@[simp] theorem Channel.closeWindow_prof (held : Nat) (c : Channel) : (c.closeWindow held).prof = c.prof := by
  rw [Channel.closeWindow_eq]
@[simp] theorem Channel.closeWindow_demand (held : Nat) (c : Channel) : (c.closeWindow held).demand = c.demand := by
  rw [Channel.closeWindow_eq]
@[simp] theorem Channel.closeWindow_staged (held : Nat) (c : Channel) : (c.closeWindow held).staged = c.staged := by
  rw [Channel.closeWindow_eq]
@[simp] theorem Channel.closeWindow_taken (held : Nat) (c : Channel) : (c.closeWindow held).taken = c.taken := by
  rw [Channel.closeWindow_eq]
@[simp] theorem Channel.closeWindow_test (held : Nat) (c : Channel) : (c.closeWindow held).test = c.test := by
  rw [Channel.closeWindow_eq]
@[simp] theorem Channel.closeWindow_trips (held : Nat) (c : Channel) : (c.closeWindow held).trips = c.trips := by
  rw [Channel.closeWindow_eq]
@[simp] theorem Channel.closeWindow_cause (held : Nat) (c : Channel) : (c.closeWindow held).cause = c.cause := by
  rw [Channel.closeWindow_eq]
@[simp] theorem Channel.closeWindow_openFlag (held : Nat) (c : Channel) :
    (c.closeWindow held).openFlag = c.openFlag := by
  rw [Channel.closeWindow_eq]
@[simp] theorem Channel.closeWindow_iOn (held : Nat) (c : Channel) : (c.closeWindow held).iOn = c.iOn := by
  rw [Channel.closeWindow_eq]
@[simp] theorem Channel.closeWindow_p (held : Nat) (c : Channel) : (c.closeWindow held).p = c.p := by
  rw [Channel.closeWindow_eq]
@[simp] theorem Channel.closeWindow_d (held : Nat) (c : Channel) : (c.closeWindow held).d = c.d := by
  rw [Channel.closeWindow_eq]
@[simp] theorem Channel.closeWindow_sum (held : Nat) (c : Channel) : (c.closeWindow held).sum = c.sum := by
  rw [Channel.closeWindow_eq]
@[simp] theorem Channel.closeWindow_number (held : Nat) (c : Channel) : (c.closeWindow held).number = c.number := by
  rw [Channel.closeWindow_eq]
@[simp] theorem Channel.closeWindow_wait (held : Nat) (c : Channel) : (c.closeWindow held).wait = c.wait := by
  rw [Channel.closeWindow_eq]
@[simp] theorem Channel.closeWindow_normalRun (held : Nat) (c : Channel) :
    (c.closeWindow held).normalRun = c.normalRun := by
  rw [Channel.closeWindow_eq]
@[simp] theorem Channel.closeWindow_release (held : Nat) (c : Channel) :
    (c.closeWindow held).release = c.release := by
  rw [Channel.closeWindow_eq]
@[simp] theorem Channel.closeWindow_peak (held : Nat) (c : Channel) : (c.closeWindow held).peak = c.peak := by
  rw [Channel.closeWindow_eq]
@[simp] theorem Channel.closeWindow_driven (held : Nat) (c : Channel) : (c.closeWindow held).driven = c.driven := by
  rw [Channel.closeWindow_eq]
@[simp] theorem Channel.closeWindow_shortDue (held : Nat) (c : Channel) :
    (c.closeWindow held).shortDue = c.shortDue := by
  rw [Channel.closeWindow_eq]
@[simp] theorem Channel.closeWindow_openLeft (held : Nat) (c : Channel) :
    (c.closeWindow held).openLeft = c.openLeft := by
  rw [Channel.closeWindow_eq]
@[simp] theorem Channel.closeWindow_needle (held : Nat) (c : Channel) :
    (c.closeWindow held).needle = c.needle := by
  rw [Channel.closeWindow_eq]

/-! ### follow -/

@[simp] theorem Channel.follow_prof (boundary : Bool) (held : Nat) (c : Channel) :
    (c.follow boundary held).prof = c.prof := by
  unfold Channel.follow; dsimp only; split <;> simp
@[simp] theorem Channel.follow_demand (boundary : Bool) (held : Nat) (c : Channel) :
    (c.follow boundary held).demand = c.demand := by
  unfold Channel.follow; dsimp only; split <;> simp
@[simp] theorem Channel.follow_staged (boundary : Bool) (held : Nat) (c : Channel) :
    (c.follow boundary held).staged = c.staged := by
  unfold Channel.follow; dsimp only; split <;> simp
@[simp] theorem Channel.follow_taken (boundary : Bool) (held : Nat) (c : Channel) :
    (c.follow boundary held).taken = c.taken := by
  unfold Channel.follow; dsimp only; split <;> simp
@[simp] theorem Channel.follow_test (boundary : Bool) (held : Nat) (c : Channel) :
    (c.follow boundary held).test = c.test := by
  unfold Channel.follow; dsimp only; split <;> simp
@[simp] theorem Channel.follow_trips (boundary : Bool) (held : Nat) (c : Channel) :
    (c.follow boundary held).trips = c.trips := by
  unfold Channel.follow; dsimp only; split <;> simp
@[simp] theorem Channel.follow_cause (boundary : Bool) (held : Nat) (c : Channel) :
    (c.follow boundary held).cause = c.cause := by
  unfold Channel.follow; dsimp only; split <;> simp
@[simp] theorem Channel.follow_openFlag (boundary : Bool) (held : Nat) (c : Channel) :
    (c.follow boundary held).openFlag = c.openFlag := by
  unfold Channel.follow; dsimp only; split <;> simp
@[simp] theorem Channel.follow_iOn (boundary : Bool) (held : Nat) (c : Channel) :
    (c.follow boundary held).iOn = c.iOn := by
  unfold Channel.follow; dsimp only; split <;> simp
@[simp] theorem Channel.follow_p (boundary : Bool) (held : Nat) (c : Channel) : (c.follow boundary held).p = c.p := by
  unfold Channel.follow; dsimp only; split <;> simp
@[simp] theorem Channel.follow_d (boundary : Bool) (held : Nat) (c : Channel) : (c.follow boundary held).d = c.d := by
  unfold Channel.follow; dsimp only; split <;> simp
@[simp] theorem Channel.follow_sum (boundary : Bool) (held : Nat) (c : Channel) :
    (c.follow boundary held).sum = c.sum := by
  unfold Channel.follow; dsimp only; split <;> simp
@[simp] theorem Channel.follow_number (boundary : Bool) (held : Nat) (c : Channel) :
    (c.follow boundary held).number = c.number := by
  unfold Channel.follow; dsimp only; split <;> simp
@[simp] theorem Channel.follow_wait (boundary : Bool) (held : Nat) (c : Channel) :
    (c.follow boundary held).wait = c.wait := by
  unfold Channel.follow; dsimp only; split <;> simp
@[simp] theorem Channel.follow_normalRun (boundary : Bool) (held : Nat) (c : Channel) :
    (c.follow boundary held).normalRun = c.normalRun := by
  unfold Channel.follow; dsimp only; split <;> simp
@[simp] theorem Channel.follow_release (boundary : Bool) (held : Nat) (c : Channel) :
    (c.follow boundary held).release = c.release := by
  unfold Channel.follow; dsimp only; split <;> simp
@[simp] theorem Channel.follow_peak (boundary : Bool) (held : Nat) (c : Channel) :
    (c.follow boundary held).peak = c.peak := by
  unfold Channel.follow; dsimp only; split <;> simp
@[simp] theorem Channel.follow_driven (boundary : Bool) (held : Nat) (c : Channel) :
    (c.follow boundary held).driven = c.driven := by
  unfold Channel.follow; dsimp only; split <;> simp
@[simp] theorem Channel.follow_shortDue (boundary : Bool) (held : Nat) (c : Channel) :
    (c.follow boundary held).shortDue = c.shortDue := by
  unfold Channel.follow; dsimp only; split <;> simp
@[simp] theorem Channel.follow_openLeft (boundary : Bool) (held : Nat) (c : Channel) :
    (c.follow boundary held).openLeft = c.openLeft := by
  unfold Channel.follow; dsimp only; split <;> simp
@[simp] theorem Channel.follow_needle (boundary : Bool) (held : Nat) (c : Channel) :
    (c.follow boundary held).needle = c.needle := by
  unfold Channel.follow; dsimp only; split <;> simp

/-! ### drive -/

@[simp] theorem Channel.drive_prof (vs : Nat) (c : Channel) : (c.drive vs).prof = c.prof := by
  unfold Channel.drive Channel.direct Channel.stages; (repeat' split) <;> rfl
@[simp] theorem Channel.drive_demand (vs : Nat) (c : Channel) : (c.drive vs).demand = c.demand := by
  unfold Channel.drive Channel.direct Channel.stages; (repeat' split) <;> rfl
@[simp] theorem Channel.drive_staged (vs : Nat) (c : Channel) : (c.drive vs).staged = c.staged := by
  unfold Channel.drive Channel.direct Channel.stages; (repeat' split) <;> rfl
@[simp] theorem Channel.drive_taken (vs : Nat) (c : Channel) : (c.drive vs).taken = c.taken := by
  unfold Channel.drive Channel.direct Channel.stages; (repeat' split) <;> rfl
@[simp] theorem Channel.drive_test (vs : Nat) (c : Channel) : (c.drive vs).test = c.test := by
  unfold Channel.drive Channel.direct Channel.stages; (repeat' split) <;> rfl
@[simp] theorem Channel.drive_trips (vs : Nat) (c : Channel) : (c.drive vs).trips = c.trips := by
  unfold Channel.drive Channel.direct Channel.stages; (repeat' split) <;> rfl
@[simp] theorem Channel.drive_cause (vs : Nat) (c : Channel) : (c.drive vs).cause = c.cause := by
  unfold Channel.drive Channel.direct Channel.stages; (repeat' split) <;> rfl
@[simp] theorem Channel.drive_openFlag (vs : Nat) (c : Channel) : (c.drive vs).openFlag = c.openFlag := by
  unfold Channel.drive Channel.direct Channel.stages; (repeat' split) <;> rfl
@[simp] theorem Channel.drive_iOn (vs : Nat) (c : Channel) : (c.drive vs).iOn = c.iOn := by
  unfold Channel.drive Channel.direct Channel.stages; (repeat' split) <;> rfl
@[simp] theorem Channel.drive_p (vs : Nat) (c : Channel) : (c.drive vs).p = c.p := by
  unfold Channel.drive Channel.direct Channel.stages; (repeat' split) <;> rfl
@[simp] theorem Channel.drive_d (vs : Nat) (c : Channel) : (c.drive vs).d = c.d := by
  unfold Channel.drive Channel.direct Channel.stages; (repeat' split) <;> rfl
@[simp] theorem Channel.drive_sum (vs : Nat) (c : Channel) : (c.drive vs).sum = c.sum := by
  unfold Channel.drive Channel.direct Channel.stages; (repeat' split) <;> rfl
@[simp] theorem Channel.drive_number (vs : Nat) (c : Channel) : (c.drive vs).number = c.number := by
  unfold Channel.drive Channel.direct Channel.stages; (repeat' split) <;> rfl
@[simp] theorem Channel.drive_wait (vs : Nat) (c : Channel) : (c.drive vs).wait = c.wait := by
  unfold Channel.drive Channel.direct Channel.stages; (repeat' split) <;> rfl
@[simp] theorem Channel.drive_normalRun (vs : Nat) (c : Channel) : (c.drive vs).normalRun = c.normalRun := by
  unfold Channel.drive Channel.direct Channel.stages; (repeat' split) <;> rfl
@[simp] theorem Channel.drive_release (vs : Nat) (c : Channel) : (c.drive vs).release = c.release := by
  unfold Channel.drive Channel.direct Channel.stages; (repeat' split) <;> rfl
@[simp] theorem Channel.drive_peak (vs : Nat) (c : Channel) : (c.drive vs).peak = c.peak := by
  unfold Channel.drive Channel.direct Channel.stages; (repeat' split) <;> rfl
@[simp] theorem Channel.drive_driven (vs : Nat) (c : Channel) : (c.drive vs).driven = c.driven := by
  unfold Channel.drive Channel.direct Channel.stages; (repeat' split) <;> rfl
@[simp] theorem Channel.drive_shortDue (vs : Nat) (c : Channel) : (c.drive vs).shortDue = c.shortDue := by
  unfold Channel.drive Channel.direct Channel.stages; (repeat' split) <;> rfl
@[simp] theorem Channel.drive_openLeft (vs : Nat) (c : Channel) : (c.drive vs).openLeft = c.openLeft := by
  unfold Channel.drive Channel.direct Channel.stages; (repeat' split) <;> rfl
@[simp] theorem Channel.drive_needle (vs : Nat) (c : Channel) : (c.drive vs).needle = c.needle := by
  unfold Channel.drive Channel.direct Channel.stages; (repeat' split) <;> rfl

/-! ### driveNow -/

/-- Forming a target duty at an instant changes the drive figures alone, and for a GAUGE p and d (R83, R98). -/
theorem Channel.driveNow_eq (vs now : Nat) (c : Channel) : c.driveNow vs now =
    { c with p := (c.driveNow vs now).p, d := (c.driveNow vs now).d, vt := (c.driveNow vs now).vt
             q := (c.driveNow vs now).q, underSupply := (c.driveNow vs now).underSupply
             target := (c.driveNow vs now).target } := by
  unfold Channel.driveNow Channel.runNeedle Channel.gaugeDrive Channel.gaugeUpdate Channel.drive Channel.direct
    Channel.stages
  (repeat' split) <;> rfl

@[simp] theorem Channel.driveNow_prof (vs now : Nat) (c : Channel) : (c.driveNow vs now).prof = c.prof := by
  rw [Channel.driveNow_eq]
@[simp] theorem Channel.driveNow_demand (vs now : Nat) (c : Channel) : (c.driveNow vs now).demand = c.demand := by
  rw [Channel.driveNow_eq]
@[simp] theorem Channel.driveNow_staged (vs now : Nat) (c : Channel) : (c.driveNow vs now).staged = c.staged := by
  rw [Channel.driveNow_eq]
@[simp] theorem Channel.driveNow_taken (vs now : Nat) (c : Channel) : (c.driveNow vs now).taken = c.taken := by
  rw [Channel.driveNow_eq]
@[simp] theorem Channel.driveNow_test (vs now : Nat) (c : Channel) : (c.driveNow vs now).test = c.test := by
  rw [Channel.driveNow_eq]
@[simp] theorem Channel.driveNow_trips (vs now : Nat) (c : Channel) : (c.driveNow vs now).trips = c.trips := by
  rw [Channel.driveNow_eq]
@[simp] theorem Channel.driveNow_cause (vs now : Nat) (c : Channel) : (c.driveNow vs now).cause = c.cause := by
  rw [Channel.driveNow_eq]
@[simp] theorem Channel.driveNow_openFlag (vs now : Nat) (c : Channel) : (c.driveNow vs now).openFlag = c.openFlag := by
  rw [Channel.driveNow_eq]
@[simp] theorem Channel.driveNow_iOn (vs now : Nat) (c : Channel) : (c.driveNow vs now).iOn = c.iOn := by
  rw [Channel.driveNow_eq]
@[simp] theorem Channel.driveNow_sum (vs now : Nat) (c : Channel) : (c.driveNow vs now).sum = c.sum := by
  rw [Channel.driveNow_eq]
@[simp] theorem Channel.driveNow_number (vs now : Nat) (c : Channel) : (c.driveNow vs now).number = c.number := by
  rw [Channel.driveNow_eq]
@[simp] theorem Channel.driveNow_wait (vs now : Nat) (c : Channel) : (c.driveNow vs now).wait = c.wait := by
  rw [Channel.driveNow_eq]
@[simp] theorem Channel.driveNow_normalRun (vs now : Nat) (c : Channel) : (c.driveNow vs now).normalRun = c.normalRun := by
  rw [Channel.driveNow_eq]
@[simp] theorem Channel.driveNow_release (vs now : Nat) (c : Channel) : (c.driveNow vs now).release = c.release := by
  rw [Channel.driveNow_eq]
@[simp] theorem Channel.driveNow_peak (vs now : Nat) (c : Channel) : (c.driveNow vs now).peak = c.peak := by
  rw [Channel.driveNow_eq]
@[simp] theorem Channel.driveNow_driven (vs now : Nat) (c : Channel) : (c.driveNow vs now).driven = c.driven := by
  rw [Channel.driveNow_eq]
@[simp] theorem Channel.driveNow_shortDue (vs now : Nat) (c : Channel) : (c.driveNow vs now).shortDue = c.shortDue := by
  rw [Channel.driveNow_eq]
@[simp] theorem Channel.driveNow_openLeft (vs now : Nat) (c : Channel) : (c.driveNow vs now).openLeft = c.openLeft := by
  rw [Channel.driveNow_eq]
@[simp] theorem Channel.driveNow_composed (vs now : Nat) (c : Channel) : (c.driveNow vs now).composed = c.composed := by
  rw [Channel.driveNow_eq]
@[simp] theorem Channel.driveNow_applied (vs now : Nat) (c : Channel) : (c.driveNow vs now).applied = c.applied := by
  rw [Channel.driveNow_eq]
@[simp] theorem Channel.driveNow_protection (vs now : Nat) (c : Channel) : (c.driveNow vs now).protection = c.protection := by
  rw [Channel.driveNow_eq]
@[simp] theorem Channel.driveNow_window (vs now : Nat) (c : Channel) : (c.driveNow vs now).window = c.window := by
  rw [Channel.driveNow_eq]
@[simp] theorem Channel.driveNow_needle (vs now : Nat) (c : Channel) : (c.driveNow vs now).needle = c.needle := by
  rw [Channel.driveNow_eq]
@[simp] theorem Channel.driveNow_base (vs now : Nat) (c : Channel) : (c.driveNow vs now).base = c.base := by
  rw [Channel.driveNow_eq]

/-- Without the pipeline of a boundary at the instant, p and d stay (R55, R83). -/
theorem Channel.driveNow_position {c : Channel} {now : Nat} (h : c.prof.kind = .gauge → c.needleAt now = none) (vs : Nat) :
    (c.driveNow vs now).p = c.p ∧ (c.driveNow vs now).d = c.d := by
  unfold Channel.driveNow
  by_cases hk : c.prof.kind = .gauge <;> simp [hk, h]

/-! ### rewound -/

@[simp] theorem Channel.rewound_prof (now : Nat) (c : Channel) : (c.rewound now).prof = c.prof := by
  unfold Channel.rewound; split <;> rfl
@[simp] theorem Channel.rewound_demand (now : Nat) (c : Channel) : (c.rewound now).demand = c.demand := by
  unfold Channel.rewound; split <;> rfl
@[simp] theorem Channel.rewound_staged (now : Nat) (c : Channel) : (c.rewound now).staged = c.staged := by
  unfold Channel.rewound; split <;> rfl
@[simp] theorem Channel.rewound_taken (now : Nat) (c : Channel) : (c.rewound now).taken = c.taken := by
  unfold Channel.rewound; split <;> rfl
@[simp] theorem Channel.rewound_test (now : Nat) (c : Channel) : (c.rewound now).test = c.test := by
  unfold Channel.rewound; split <;> rfl
@[simp] theorem Channel.rewound_trips (now : Nat) (c : Channel) : (c.rewound now).trips = c.trips := by
  unfold Channel.rewound; split <;> rfl
@[simp] theorem Channel.rewound_cause (now : Nat) (c : Channel) : (c.rewound now).cause = c.cause := by
  unfold Channel.rewound; split <;> rfl
@[simp] theorem Channel.rewound_openFlag (now : Nat) (c : Channel) : (c.rewound now).openFlag = c.openFlag := by
  unfold Channel.rewound; split <;> rfl
@[simp] theorem Channel.rewound_iOn (now : Nat) (c : Channel) : (c.rewound now).iOn = c.iOn := by
  unfold Channel.rewound; split <;> rfl
@[simp] theorem Channel.rewound_p (now : Nat) (c : Channel) : (c.rewound now).p = c.p := by
  unfold Channel.rewound; split <;> rfl
@[simp] theorem Channel.rewound_d (now : Nat) (c : Channel) : (c.rewound now).d = c.d := by
  unfold Channel.rewound; split <;> rfl
@[simp] theorem Channel.rewound_sum (now : Nat) (c : Channel) : (c.rewound now).sum = c.sum := by
  unfold Channel.rewound; split <;> rfl
@[simp] theorem Channel.rewound_number (now : Nat) (c : Channel) : (c.rewound now).number = c.number := by
  unfold Channel.rewound; split <;> rfl
@[simp] theorem Channel.rewound_wait (now : Nat) (c : Channel) : (c.rewound now).wait = c.wait := by
  unfold Channel.rewound; split <;> rfl
@[simp] theorem Channel.rewound_normalRun (now : Nat) (c : Channel) : (c.rewound now).normalRun = c.normalRun := by
  unfold Channel.rewound; split <;> rfl
@[simp] theorem Channel.rewound_release (now : Nat) (c : Channel) : (c.rewound now).release = c.release := by
  unfold Channel.rewound; split <;> rfl
@[simp] theorem Channel.rewound_peak (now : Nat) (c : Channel) : (c.rewound now).peak = c.peak := by
  unfold Channel.rewound; split <;> rfl
@[simp] theorem Channel.rewound_driven (now : Nat) (c : Channel) : (c.rewound now).driven = c.driven := by
  unfold Channel.rewound; split <;> rfl
@[simp] theorem Channel.rewound_shortDue (now : Nat) (c : Channel) : (c.rewound now).shortDue = c.shortDue := by
  unfold Channel.rewound; split <;> rfl
@[simp] theorem Channel.rewound_openLeft (now : Nat) (c : Channel) : (c.rewound now).openLeft = c.openLeft := by
  unfold Channel.rewound; split <;> rfl
@[simp] theorem Channel.rewound_needle (now : Nat) (c : Channel) : (c.rewound now).needle = c.needle := by
  unfold Channel.rewound; split <;> rfl

/-! ### openWindow -/

@[simp] theorem Channel.openWindow_prof (c : Channel) : (c.openWindow).prof = c.prof := by
  unfold Channel.openWindow; split <;> rfl
@[simp] theorem Channel.openWindow_demand (c : Channel) : (c.openWindow).demand = c.demand := by
  unfold Channel.openWindow; split <;> rfl
@[simp] theorem Channel.openWindow_staged (c : Channel) : (c.openWindow).staged = c.staged := by
  unfold Channel.openWindow; split <;> rfl
@[simp] theorem Channel.openWindow_taken (c : Channel) : (c.openWindow).taken = c.taken := by
  unfold Channel.openWindow; split <;> rfl
@[simp] theorem Channel.openWindow_test (c : Channel) : (c.openWindow).test = c.test := by
  unfold Channel.openWindow; split <;> rfl
@[simp] theorem Channel.openWindow_trips (c : Channel) : (c.openWindow).trips = c.trips := by
  unfold Channel.openWindow; split <;> rfl
@[simp] theorem Channel.openWindow_cause (c : Channel) : (c.openWindow).cause = c.cause := by
  unfold Channel.openWindow; split <;> rfl
@[simp] theorem Channel.openWindow_openFlag (c : Channel) : (c.openWindow).openFlag = c.openFlag := by
  unfold Channel.openWindow; split <;> rfl
@[simp] theorem Channel.openWindow_iOn (c : Channel) : (c.openWindow).iOn = c.iOn := by
  unfold Channel.openWindow; split <;> rfl
@[simp] theorem Channel.openWindow_p (c : Channel) : (c.openWindow).p = c.p := by
  unfold Channel.openWindow; split <;> rfl
@[simp] theorem Channel.openWindow_d (c : Channel) : (c.openWindow).d = c.d := by
  unfold Channel.openWindow; split <;> rfl
@[simp] theorem Channel.openWindow_sum (c : Channel) : (c.openWindow).sum = c.sum := by
  unfold Channel.openWindow; split <;> rfl
@[simp] theorem Channel.openWindow_number (c : Channel) : (c.openWindow).number = c.number := by
  unfold Channel.openWindow; split <;> rfl
@[simp] theorem Channel.openWindow_wait (c : Channel) : (c.openWindow).wait = c.wait := by
  unfold Channel.openWindow; split <;> rfl
@[simp] theorem Channel.openWindow_normalRun (c : Channel) : (c.openWindow).normalRun = c.normalRun := by
  unfold Channel.openWindow; split <;> rfl
@[simp] theorem Channel.openWindow_release (c : Channel) : (c.openWindow).release = c.release := by
  unfold Channel.openWindow; split <;> rfl
@[simp] theorem Channel.openWindow_peak (c : Channel) : (c.openWindow).peak = c.peak := by
  unfold Channel.openWindow; split <;> rfl
@[simp] theorem Channel.openWindow_driven (c : Channel) : (c.openWindow).driven = c.driven := by
  unfold Channel.openWindow; split <;> rfl
@[simp] theorem Channel.openWindow_shortDue (c : Channel) : (c.openWindow).shortDue = c.shortDue := by
  unfold Channel.openWindow; split <;> rfl
@[simp] theorem Channel.openWindow_openLeft (c : Channel) : (c.openWindow).openLeft = c.openLeft := by
  unfold Channel.openWindow; split <;> rfl
@[simp] theorem Channel.openWindow_needle (c : Channel) : (c.openWindow).needle = c.needle := by
  unfold Channel.openWindow; split <;> rfl

/-! ### leaveWait -/

@[simp] theorem Channel.leaveWait_prof (c : Channel) : (c.leaveWait).prof = c.prof := by
  unfold Channel.leaveWait; split <;> rfl
@[simp] theorem Channel.leaveWait_demand (c : Channel) : (c.leaveWait).demand = c.demand := by
  unfold Channel.leaveWait; split <;> rfl
@[simp] theorem Channel.leaveWait_staged (c : Channel) : (c.leaveWait).staged = c.staged := by
  unfold Channel.leaveWait; split <;> rfl
@[simp] theorem Channel.leaveWait_taken (c : Channel) : (c.leaveWait).taken = c.taken := by
  unfold Channel.leaveWait; split <;> rfl
@[simp] theorem Channel.leaveWait_test (c : Channel) : (c.leaveWait).test = c.test := by
  unfold Channel.leaveWait; split <;> rfl
@[simp] theorem Channel.leaveWait_trips (c : Channel) : (c.leaveWait).trips = c.trips := by
  unfold Channel.leaveWait; split <;> rfl
@[simp] theorem Channel.leaveWait_cause (c : Channel) : (c.leaveWait).cause = c.cause := by
  unfold Channel.leaveWait; split <;> rfl
@[simp] theorem Channel.leaveWait_openFlag (c : Channel) : (c.leaveWait).openFlag = c.openFlag := by
  unfold Channel.leaveWait; split <;> rfl
@[simp] theorem Channel.leaveWait_iOn (c : Channel) : (c.leaveWait).iOn = c.iOn := by
  unfold Channel.leaveWait; split <;> rfl
@[simp] theorem Channel.leaveWait_p (c : Channel) : (c.leaveWait).p = c.p := by
  unfold Channel.leaveWait; split <;> rfl
@[simp] theorem Channel.leaveWait_d (c : Channel) : (c.leaveWait).d = c.d := by
  unfold Channel.leaveWait; split <;> rfl
@[simp] theorem Channel.leaveWait_sum (c : Channel) : (c.leaveWait).sum = c.sum := by
  unfold Channel.leaveWait; split <;> rfl
@[simp] theorem Channel.leaveWait_number (c : Channel) : (c.leaveWait).number = c.number := by
  unfold Channel.leaveWait; split <;> rfl
@[simp] theorem Channel.leaveWait_wait (c : Channel) : (c.leaveWait).wait = c.wait := by
  unfold Channel.leaveWait; split <;> rfl
@[simp] theorem Channel.leaveWait_normalRun (c : Channel) : (c.leaveWait).normalRun = c.normalRun := by
  unfold Channel.leaveWait; split <;> rfl
@[simp] theorem Channel.leaveWait_release (c : Channel) : (c.leaveWait).release = c.release := by
  unfold Channel.leaveWait; split <;> rfl
@[simp] theorem Channel.leaveWait_peak (c : Channel) : (c.leaveWait).peak = c.peak := by
  unfold Channel.leaveWait; split <;> rfl
@[simp] theorem Channel.leaveWait_driven (c : Channel) : (c.leaveWait).driven = c.driven := by
  unfold Channel.leaveWait; split <;> rfl
@[simp] theorem Channel.leaveWait_shortDue (c : Channel) : (c.leaveWait).shortDue = c.shortDue := by
  unfold Channel.leaveWait; split <;> rfl
@[simp] theorem Channel.leaveWait_openLeft (c : Channel) : (c.leaveWait).openLeft = c.openLeft := by
  unfold Channel.leaveWait; split <;> rfl
@[simp] theorem Channel.leaveWait_needle (c : Channel) : (c.leaveWait).needle = c.needle := by
  unfold Channel.leaveWait; split <;> rfl

/-! ### formNow -/

@[simp] theorem Channel.formNow_prof (vs le : Nat) (parked : Bool) (now : Nat) (atBoundary : Bool) (c : Channel) :
    (c.formNow vs le parked now atBoundary).prof = c.prof := by
  unfold Channel.formNow Channel.based Channel.markBeat; (repeat' (first | split | dsimp only)) <;> simp
@[simp] theorem Channel.formNow_demand (vs le : Nat) (parked : Bool) (now : Nat) (atBoundary : Bool) (c : Channel) :
    (c.formNow vs le parked now atBoundary).demand = c.demand := by
  unfold Channel.formNow Channel.based Channel.markBeat; (repeat' (first | split | dsimp only)) <;> simp
@[simp] theorem Channel.formNow_staged (vs le : Nat) (parked : Bool) (now : Nat) (atBoundary : Bool) (c : Channel) :
    (c.formNow vs le parked now atBoundary).staged = c.staged := by
  unfold Channel.formNow Channel.based Channel.markBeat; (repeat' (first | split | dsimp only)) <;> simp
@[simp] theorem Channel.formNow_taken (vs le : Nat) (parked : Bool) (now : Nat) (atBoundary : Bool) (c : Channel) :
    (c.formNow vs le parked now atBoundary).taken = c.taken := by
  unfold Channel.formNow Channel.based Channel.markBeat; (repeat' (first | split | dsimp only)) <;> simp
@[simp] theorem Channel.formNow_test (vs le : Nat) (parked : Bool) (now : Nat) (atBoundary : Bool) (c : Channel) :
    (c.formNow vs le parked now atBoundary).test = c.test := by
  unfold Channel.formNow Channel.based Channel.markBeat; (repeat' (first | split | dsimp only)) <;> simp
@[simp] theorem Channel.formNow_trips (vs le : Nat) (parked : Bool) (now : Nat) (atBoundary : Bool) (c : Channel) :
    (c.formNow vs le parked now atBoundary).trips = c.trips := by
  unfold Channel.formNow Channel.based Channel.markBeat; (repeat' (first | split | dsimp only)) <;> simp
@[simp] theorem Channel.formNow_cause (vs le : Nat) (parked : Bool) (now : Nat) (atBoundary : Bool) (c : Channel) :
    (c.formNow vs le parked now atBoundary).cause = c.cause := by
  unfold Channel.formNow Channel.based Channel.markBeat; (repeat' (first | split | dsimp only)) <;> simp
@[simp] theorem Channel.formNow_openFlag (vs le : Nat) (parked : Bool) (now : Nat) (atBoundary : Bool) (c : Channel) :
    (c.formNow vs le parked now atBoundary).openFlag = c.openFlag := by
  unfold Channel.formNow Channel.based Channel.markBeat; (repeat' (first | split | dsimp only)) <;> simp
@[simp] theorem Channel.formNow_iOn (vs le : Nat) (parked : Bool) (now : Nat) (atBoundary : Bool) (c : Channel) :
    (c.formNow vs le parked now atBoundary).iOn = c.iOn := by
  unfold Channel.formNow Channel.based Channel.markBeat; (repeat' (first | split | dsimp only)) <;> simp
@[simp] theorem Channel.formNow_sum (vs le : Nat) (parked : Bool) (now : Nat) (atBoundary : Bool) (c : Channel) :
    (c.formNow vs le parked now atBoundary).sum = c.sum := by
  unfold Channel.formNow Channel.based Channel.markBeat; (repeat' (first | split | dsimp only)) <;> simp
@[simp] theorem Channel.formNow_number (vs le : Nat) (parked : Bool) (now : Nat) (atBoundary : Bool) (c : Channel) :
    (c.formNow vs le parked now atBoundary).number = c.number := by
  unfold Channel.formNow Channel.based Channel.markBeat; (repeat' (first | split | dsimp only)) <;> simp
@[simp] theorem Channel.formNow_wait (vs le : Nat) (parked : Bool) (now : Nat) (atBoundary : Bool) (c : Channel) :
    (c.formNow vs le parked now atBoundary).wait = c.wait := by
  unfold Channel.formNow Channel.based Channel.markBeat; (repeat' (first | split | dsimp only)) <;> simp
@[simp] theorem Channel.formNow_normalRun (vs le : Nat) (parked : Bool) (now : Nat) (atBoundary : Bool) (c : Channel) :
    (c.formNow vs le parked now atBoundary).normalRun = c.normalRun := by
  unfold Channel.formNow Channel.based Channel.markBeat; (repeat' (first | split | dsimp only)) <;> simp
@[simp] theorem Channel.formNow_release (vs le : Nat) (parked : Bool) (now : Nat) (atBoundary : Bool) (c : Channel) :
    (c.formNow vs le parked now atBoundary).release = c.release := by
  unfold Channel.formNow Channel.based Channel.markBeat; (repeat' (first | split | dsimp only)) <;> simp
@[simp] theorem Channel.formNow_peak (vs le : Nat) (parked : Bool) (now : Nat) (atBoundary : Bool) (c : Channel) :
    (c.formNow vs le parked now atBoundary).peak = c.peak := by
  unfold Channel.formNow Channel.based Channel.markBeat; (repeat' (first | split | dsimp only)) <;> simp
@[simp] theorem Channel.formNow_driven (vs le : Nat) (parked : Bool) (now : Nat) (atBoundary : Bool) (c : Channel) :
    (c.formNow vs le parked now atBoundary).driven = c.driven := by
  unfold Channel.formNow Channel.based Channel.markBeat; (repeat' (first | split | dsimp only)) <;> simp
@[simp] theorem Channel.formNow_shortDue (vs le : Nat) (parked : Bool) (now : Nat) (atBoundary : Bool) (c : Channel) :
    (c.formNow vs le parked now atBoundary).shortDue = c.shortDue := by
  unfold Channel.formNow Channel.based Channel.markBeat; (repeat' (first | split | dsimp only)) <;> simp
@[simp] theorem Channel.formNow_openLeft (vs le : Nat) (parked : Bool) (now : Nat) (atBoundary : Bool) (c : Channel) :
    (c.formNow vs le parked now atBoundary).openLeft = c.openLeft := by
  unfold Channel.formNow Channel.based Channel.markBeat; (repeat' (first | split | dsimp only)) <;> simp
@[simp] theorem Channel.formNow_needle (vs le : Nat) (parked : Bool) (now : Nat) (atBoundary : Bool) (c : Channel) :
    (c.formNow vs le parked now atBoundary).needle = c.needle := by
  unfold Channel.formNow Channel.based Channel.markBeat; (repeat' (first | split | dsimp only)) <;> simp

/-- Without the pipeline of a boundary at the instant, a composition leaves p and d (R55, R83). -/
theorem Channel.formNow_position {c : Channel} {now : Nat} (h : c.prof.kind = .gauge → c.needleAt now = none)
    (vs le : Nat) (parked atBoundary : Bool) :
    (c.formNow vs le parked now atBoundary).p = c.p ∧ (c.formNow vs le parked now atBoundary).d = c.d := by
  have hn : ∀ x : Channel, x.prof = c.prof → x.needle = c.needle →
      (x.driveNow vs now).p = x.p ∧ (x.driveNow vs now).d = x.d := fun x hp hd =>
    Channel.driveNow_position (fun hk => (congrArg _ hd).trans (h (hp ▸ hk))) vs
  unfold Channel.formNow Channel.based Channel.markBeat
  (repeat' (first | split | dsimp only)) <;> simp [hn]

/-! ## The composed value -/

@[simp] theorem Channel.setApplied_composed (duty : Nat) (c : Channel) :
    (c.setApplied duty).composed = c.composed := by
  unfold Channel.setApplied; split <;> rfl
@[simp] theorem Channel.follow_composed (boundary : Bool) (held : Nat) (c : Channel) :
    (c.follow boundary held).composed = c.composed := by
  rcases c.follow_cases boundary held with ⟨-, h⟩ | ⟨-, h⟩ <;> rw [h] <;> simp [Channel.closeWindow_eq]
@[simp] theorem Channel.drive_composed (vs : Nat) (c : Channel) : (c.drive vs).composed = c.composed := by
  unfold Channel.drive Channel.direct Channel.stages; (repeat' split) <;> rfl
@[simp] theorem Channel.openWindow_composed (c : Channel) : c.openWindow.composed = c.composed := by
  unfold Channel.openWindow; split <;> rfl
@[simp] theorem Channel.gaugeUpdate_composed (sag : Bool) (cls : SourceClass) (reading : Nat) (c : Channel) :
    (c.gaugeUpdate sag cls reading).composed = c.composed := by
  unfold Channel.gaugeUpdate; (repeat' split) <;> rfl
@[simp] theorem Channel.gaugeDrive_composed (vs : Nat) (c : Channel) : (c.gaugeDrive vs).composed = c.composed := by
  unfold Channel.gaugeDrive Channel.direct Channel.stages; split <;> rfl

@[simp] theorem Channel.runNeedle_composed (vs : Nat) (k : NeedleBase) (c : Channel) :
    (c.runNeedle vs k).composed = c.composed := by simp [Channel.runNeedle]

@[simp] theorem Channel.leaveWait_composed (c : Channel) : c.leaveWait.composed = c.composed := by
  unfold Channel.leaveWait; split <;> rfl

/-- After a composition the composed value is what R49 gives. -/
theorem Channel.formNow_composed (vs le : Nat) (parked : Bool) (now : Nat) (atBoundary : Bool) (c : Channel) :
    (c.formNow vs le parked now atBoundary).composed = c.compose le parked := by
  unfold Channel.formNow Channel.based Channel.markBeat
  (repeat' (first | split | dsimp only)) <;> simp_all

/-- After a boundary the composed value is what R49 gives. -/
theorem Channel.formBoundary_composed (vs le : Nat) (parked sag : Bool) (now : Nat) (cls : SourceClass) (reading : Nat)
    (c : Channel) : (c.formBoundary vs le parked sag now cls reading).composed = c.compose le parked := by
  unfold Channel.formBoundary Channel.based
  (repeat' (first | split | dsimp only)) <;> simp

end Sys2Proof.Machine
end

