-- ==== Sys2Proof/Laws/Frames.lean ====
section
/-! SUPPORT. What each shared operation leaves as it was, field by field: the frames that the statements about commands
are put together from. -/

set_option Elab.async false

namespace Sys2Proof.Machine

/-- A fold keeps what each of its steps keeps. -/
theorem foldl_keeps {α β : Type} (g : State → β) (f : State → α → State) (h : ∀ s x, g (f s x) = g s) (l : List α)
    (s : State) : g (l.foldl f s) = g s := by
  induction l generalizing s with
  | nil => rfl
  | cons x rest ih => simp only [List.foldl_cons]; rw [ih, h]


/-! ### abandonParking -/

@[simp] theorem abandonParking_hold (s : State) : (s.abandonParking).hold = s.hold := by
  unfold State.abandonParking; (repeat' split) <;> simp
@[simp] theorem abandonParking_common (s : State) : (s.abandonParking).common = s.common := by
  unfold State.abandonParking; (repeat' split) <;> simp
@[simp] theorem abandonParking_clock (s : State) : (s.abandonParking).clock = s.clock := by
  unfold State.abandonParking; (repeat' split) <;> simp
@[simp] theorem abandonParking_flash (s : State) : (s.abandonParking).flash = s.flash := by
  unfold State.abandonParking; (repeat' split) <;> simp
@[simp] theorem abandonParking_intrinsics (s : State) : (s.abandonParking).intrinsics = s.intrinsics := by
  unfold State.abandonParking; (repeat' split) <;> simp
@[simp] theorem abandonParking_lif (s : State) : (s.abandonParking).lif = s.lif := by
  unfold State.abandonParking; (repeat' split) <;> simp
@[simp] theorem abandonParking_txq (s : State) : (s.abandonParking).txq = s.txq := by
  unfold State.abandonParking; (repeat' split) <;> simp
@[simp] theorem abandonParking_peers (s : State) : (s.abandonParking).peers = s.peers := by
  unfold State.abandonParking; (repeat' split) <;> simp
@[simp] theorem abandonParking_expected (s : State) : (s.abandonParking).expected = s.expected := by
  unfold State.abandonParking; (repeat' split) <;> simp
@[simp] theorem abandonParking_itm (s : State) : (s.abandonParking).itm = s.itm := by
  unfold State.abandonParking; (repeat' split) <;> simp
@[simp] theorem abandonParking_origins (s : State) : (s.abandonParking).origins = s.origins := by
  unfold State.abandonParking; (repeat' split) <;> simp
@[simp] theorem abandonParking_view (s : State) : (s.abandonParking).view = s.view := by
  unfold State.abandonParking; (repeat' split) <;> simp
@[simp] theorem abandonParking_maps (s : State) : (s.abandonParking).maps = s.maps := by
  unfold State.abandonParking; (repeat' split) <;> simp
@[simp] theorem abandonParking_chans (s : State) : (s.abandonParking).chans = s.chans := by
  unfold State.abandonParking; (repeat' split) <;> simp
@[simp] theorem abandonParking_cache (s : State) : (s.abandonParking).cache = s.cache := by
  unfold State.abandonParking; (repeat' split) <;> simp
@[simp] theorem abandonParking_alertSeen (s : State) : (s.abandonParking).alertSeen = s.alertSeen := by
  unfold State.abandonParking; (repeat' split) <;> simp
@[simp] theorem abandonParking_budget (s : State) : (s.abandonParking).budget = s.budget := by
  unfold State.abandonParking; (repeat' split) <;> simp
@[simp] theorem abandonParking_pending (s : State) : (s.abandonParking).pending = s.pending := by
  unfold State.abandonParking; (repeat' split) <;> simp
@[simp] theorem abandonParking_offered (s : State) : (s.abandonParking).offered = s.offered := by
  unfold State.abandonParking; (repeat' split) <;> simp
@[simp] theorem abandonParking_state (s : State) : s.abandonParking.stc.state = s.stc.state := by
  unfold State.abandonParking; (repeat' split) <;> simp
@[simp] theorem abandonParking_own (s : State) : s.abandonParking.stc.own = s.stc.own := by
  unfold State.abandonParking; (repeat' split) <;> simp

/-! ### wake -/

@[simp] theorem wake_hold (s : State) : (s.wake).hold = s.hold := by
  unfold State.wake; (repeat' split) <;> simp
@[simp] theorem wake_common (s : State) : (s.wake).common = s.common := by
  unfold State.wake; (repeat' split) <;> simp
@[simp] theorem wake_clock (s : State) : (s.wake).clock = s.clock := by
  unfold State.wake; (repeat' split) <;> simp
@[simp] theorem wake_flash (s : State) : (s.wake).flash = s.flash := by
  unfold State.wake; (repeat' split) <;> simp
@[simp] theorem wake_intrinsics (s : State) : (s.wake).intrinsics = s.intrinsics := by
  unfold State.wake; (repeat' split) <;> simp
@[simp] theorem wake_lif (s : State) : (s.wake).lif = s.lif := by
  unfold State.wake; (repeat' split) <;> simp
@[simp] theorem wake_txq (s : State) : (s.wake).txq = s.txq := by
  unfold State.wake; (repeat' split) <;> simp
@[simp] theorem wake_peers (s : State) : (s.wake).peers = s.peers := by
  unfold State.wake; (repeat' split) <;> simp
@[simp] theorem wake_expected (s : State) : (s.wake).expected = s.expected := by
  unfold State.wake; (repeat' split) <;> simp
@[simp] theorem wake_view (s : State) : (s.wake).view = s.view := by
  unfold State.wake; (repeat' split) <;> simp
@[simp] theorem wake_maps (s : State) : (s.wake).maps = s.maps := by
  unfold State.wake; (repeat' split) <;> simp
@[simp] theorem wake_chans (s : State) : (s.wake).chans = s.chans := by
  unfold State.wake; (repeat' split) <;> simp
@[simp] theorem wake_cache (s : State) : (s.wake).cache = s.cache := by
  unfold State.wake; (repeat' split) <;> simp
@[simp] theorem wake_alertSeen (s : State) : (s.wake).alertSeen = s.alertSeen := by
  unfold State.wake; (repeat' split) <;> simp
@[simp] theorem wake_budget (s : State) : (s.wake).budget = s.budget := by
  unfold State.wake; (repeat' split) <;> simp
@[simp] theorem wake_pending (s : State) : (s.wake).pending = s.pending := by
  unfold State.wake; (repeat' split) <;> simp
@[simp] theorem wake_offered (s : State) : (s.wake).offered = s.offered := by
  unfold State.wake; (repeat' split) <;> simp
@[simp] theorem wake_own (s : State) : s.wake.stc.own = s.stc.own := by
  unfold State.wake; (repeat' split) <;> simp
@[simp] theorem wake_inputs (s : State) : s.wake.itm.inputs = s.itm.inputs := by
  unfold State.wake; (repeat' split) <;> simp
@[simp] theorem wake_vs (s : State) : s.wake.itm.vs = s.itm.vs := by
  unfold State.wake; (repeat' split) <;> simp
@[simp] theorem wake_originEntries (s : State) : s.wake.origins.entries = s.origins.entries := by
  unfold State.wake; (repeat' split) <;> simp

/-! ### queried -/

@[simp] theorem queried_hold (s : State) : (s.queried).hold = s.hold := by
  simp [State.queried]
@[simp] theorem queried_common (s : State) : (s.queried).common = s.common := by
  simp [State.queried]
@[simp] theorem queried_clock (s : State) : (s.queried).clock = s.clock := by
  simp [State.queried]
@[simp] theorem queried_flash (s : State) : (s.queried).flash = s.flash := by
  simp [State.queried]
@[simp] theorem queried_intrinsics (s : State) : (s.queried).intrinsics = s.intrinsics := by
  simp [State.queried]
@[simp] theorem queried_lif (s : State) : (s.queried).lif = s.lif := by
  simp [State.queried]
@[simp] theorem queried_txq (s : State) : (s.queried).txq = s.txq := by
  simp [State.queried]
@[simp] theorem queried_peers (s : State) : (s.queried).peers = s.peers := by
  simp [State.queried]
@[simp] theorem queried_expected (s : State) : (s.queried).expected = s.expected := by
  simp [State.queried]
@[simp] theorem queried_view (s : State) : (s.queried).view = s.view := by
  simp [State.queried]
@[simp] theorem queried_maps (s : State) : (s.queried).maps = s.maps := by
  simp [State.queried]
@[simp] theorem queried_chans (s : State) : (s.queried).chans = s.chans := by
  simp [State.queried]
@[simp] theorem queried_cache (s : State) : (s.queried).cache = s.cache := by
  simp [State.queried]
@[simp] theorem queried_alertSeen (s : State) : (s.queried).alertSeen = s.alertSeen := by
  simp [State.queried]
@[simp] theorem queried_budget (s : State) : (s.queried).budget = s.budget := by
  simp [State.queried]
@[simp] theorem queried_pending (s : State) : (s.queried).pending = s.pending := by
  simp [State.queried]
@[simp] theorem queried_offered (s : State) : (s.queried).offered = s.offered := by
  simp [State.queried]
@[simp] theorem queried_own (s : State) : s.queried.stc.own = s.stc.own := by
  simp [State.queried]
@[simp] theorem queried_inputs (s : State) : s.queried.itm.inputs = s.itm.inputs := by
  simp [State.queried]
@[simp] theorem queried_vs (s : State) : s.queried.itm.vs = s.itm.vs := by
  simp [State.queried]
@[simp] theorem queried_originEntries (s : State) : s.queried.origins.entries = s.origins.entries := by
  simp [State.queried]

/-! ### disturb -/

@[simp] theorem disturb_hold (s : State) : (s.disturb).hold = s.hold := by
  simp [State.disturb]
@[simp] theorem disturb_common (s : State) : (s.disturb).common = s.common := by
  simp [State.disturb]
@[simp] theorem disturb_clock (s : State) : (s.disturb).clock = s.clock := by
  simp [State.disturb]
@[simp] theorem disturb_flash (s : State) : (s.disturb).flash = s.flash := by
  simp [State.disturb]
@[simp] theorem disturb_intrinsics (s : State) : (s.disturb).intrinsics = s.intrinsics := by
  simp [State.disturb]
@[simp] theorem disturb_lif (s : State) : (s.disturb).lif = s.lif := by
  simp [State.disturb]
@[simp] theorem disturb_txq (s : State) : (s.disturb).txq = s.txq := by
  simp [State.disturb]
@[simp] theorem disturb_peers (s : State) : (s.disturb).peers = s.peers := by
  simp [State.disturb]
@[simp] theorem disturb_expected (s : State) : (s.disturb).expected = s.expected := by
  simp [State.disturb]
@[simp] theorem disturb_view (s : State) : (s.disturb).view = s.view := by
  simp [State.disturb]
@[simp] theorem disturb_maps (s : State) : (s.disturb).maps = s.maps := by
  simp [State.disturb]
@[simp] theorem disturb_chans (s : State) : (s.disturb).chans = s.chans := by
  simp [State.disturb]
@[simp] theorem disturb_cache (s : State) : (s.disturb).cache = s.cache := by
  simp [State.disturb]
@[simp] theorem disturb_alertSeen (s : State) : (s.disturb).alertSeen = s.alertSeen := by
  simp [State.disturb]
@[simp] theorem disturb_budget (s : State) : (s.disturb).budget = s.budget := by
  simp [State.disturb]
@[simp] theorem disturb_pending (s : State) : (s.disturb).pending = s.pending := by
  simp [State.disturb]
@[simp] theorem disturb_offered (s : State) : (s.disturb).offered = s.offered := by
  simp [State.disturb]
@[simp] theorem disturb_own (s : State) : s.disturb.stc.own = s.stc.own := by
  simp [State.disturb]
@[simp] theorem disturb_inputs (s : State) : s.disturb.itm.inputs = s.itm.inputs := by
  simp [State.disturb]
@[simp] theorem disturb_vs (s : State) : s.disturb.itm.vs = s.itm.vs := by
  simp [State.disturb]
@[simp] theorem disturb_originEntries (s : State) : s.disturb.origins.entries = s.origins.entries := by
  simp [State.disturb]

/-! ### handOnSince -/

@[simp] theorem handOnSince_hold (s : State) (v : List ViewEntry) : (s.handOnSince v).hold = s.hold := by
  unfold State.handOnSince; split <;> simp
@[simp] theorem handOnSince_common (s : State) (v : List ViewEntry) : (s.handOnSince v).common = s.common := by
  unfold State.handOnSince; split <;> simp
@[simp] theorem handOnSince_clock (s : State) (v : List ViewEntry) : (s.handOnSince v).clock = s.clock := by
  unfold State.handOnSince; split <;> simp
@[simp] theorem handOnSince_flash (s : State) (v : List ViewEntry) : (s.handOnSince v).flash = s.flash := by
  unfold State.handOnSince; split <;> simp
@[simp] theorem handOnSince_lif (s : State) (v : List ViewEntry) : (s.handOnSince v).lif = s.lif := by
  unfold State.handOnSince; split <;> simp
@[simp] theorem handOnSince_txq (s : State) (v : List ViewEntry) : (s.handOnSince v).txq = s.txq := by
  unfold State.handOnSince; split <;> simp
@[simp] theorem handOnSince_peers (s : State) (v : List ViewEntry) : (s.handOnSince v).peers = s.peers := by
  unfold State.handOnSince; split <;> simp
@[simp] theorem handOnSince_expected (s : State) (v : List ViewEntry) : (s.handOnSince v).expected = s.expected := by
  unfold State.handOnSince; split <;> simp
@[simp] theorem handOnSince_view (s : State) (v : List ViewEntry) : (s.handOnSince v).view = s.view := by
  unfold State.handOnSince; split <;> simp
@[simp] theorem handOnSince_maps (s : State) (v : List ViewEntry) : (s.handOnSince v).maps = s.maps := by
  unfold State.handOnSince; split <;> simp
@[simp] theorem handOnSince_cache (s : State) (v : List ViewEntry) : (s.handOnSince v).cache = s.cache := by
  unfold State.handOnSince; split <;> simp
@[simp] theorem handOnSince_alertSeen (s : State) (v : List ViewEntry) : (s.handOnSince v).alertSeen = s.alertSeen := by
  unfold State.handOnSince; split <;> simp
@[simp] theorem handOnSince_budget (s : State) (v : List ViewEntry) : (s.handOnSince v).budget = s.budget := by
  unfold State.handOnSince; split <;> simp
@[simp] theorem handOnSince_pending (s : State) (v : List ViewEntry) : (s.handOnSince v).pending = s.pending := by
  unfold State.handOnSince; split <;> simp
@[simp] theorem handOnSince_offered (s : State) (v : List ViewEntry) : (s.handOnSince v).offered = s.offered := by
  unfold State.handOnSince; split <;> simp
@[simp] theorem handOnSince_own (s : State) (v : List ViewEntry) : (s.handOnSince v).stc.own = s.stc.own := by
  unfold State.handOnSince; split <;> simp
@[simp] theorem handOnSince_inputs (s : State) (v : List ViewEntry) : (s.handOnSince v).itm.inputs = s.itm.inputs := by
  unfold State.handOnSince; split <;> simp
@[simp] theorem handOnSince_vs (s : State) (v : List ViewEntry) : (s.handOnSince v).itm.vs = s.itm.vs := by
  unfold State.handOnSince; split <;> simp
@[simp] theorem handOnSince_originEntries (s : State) (v : List ViewEntry) : (s.handOnSince v).origins.entries = s.origins.entries := by
  unfold State.handOnSince; split <;> simp

/-! ### withView -/

@[simp] theorem withView_hold (s : State) (v : List ViewEntry) : (s.withView v).hold = s.hold := by
  simp [State.withView]
@[simp] theorem withView_common (s : State) (v : List ViewEntry) : (s.withView v).common = s.common := by
  simp [State.withView]
@[simp] theorem withView_clock (s : State) (v : List ViewEntry) : (s.withView v).clock = s.clock := by
  simp [State.withView]
@[simp] theorem withView_flash (s : State) (v : List ViewEntry) : (s.withView v).flash = s.flash := by
  simp [State.withView]
@[simp] theorem withView_lif (s : State) (v : List ViewEntry) : (s.withView v).lif = s.lif := by
  simp [State.withView]
@[simp] theorem withView_txq (s : State) (v : List ViewEntry) : (s.withView v).txq = s.txq := by
  simp [State.withView]
@[simp] theorem withView_peers (s : State) (v : List ViewEntry) : (s.withView v).peers = s.peers := by
  simp [State.withView]
@[simp] theorem withView_expected (s : State) (v : List ViewEntry) : (s.withView v).expected = s.expected := by
  simp [State.withView]
@[simp] theorem withView_maps (s : State) (v : List ViewEntry) : (s.withView v).maps = s.maps := by
  simp [State.withView]
@[simp] theorem withView_cache (s : State) (v : List ViewEntry) : (s.withView v).cache = s.cache := by
  simp [State.withView]
@[simp] theorem withView_alertSeen (s : State) (v : List ViewEntry) : (s.withView v).alertSeen = s.alertSeen := by
  simp [State.withView]
@[simp] theorem withView_budget (s : State) (v : List ViewEntry) : (s.withView v).budget = s.budget := by
  simp [State.withView]
@[simp] theorem withView_pending (s : State) (v : List ViewEntry) : (s.withView v).pending = s.pending := by
  simp [State.withView]
@[simp] theorem withView_offered (s : State) (v : List ViewEntry) : (s.withView v).offered = s.offered := by
  simp [State.withView]
@[simp] theorem withView_own (s : State) (v : List ViewEntry) : (s.withView v).stc.own = s.stc.own := by
  simp [State.withView]
@[simp] theorem withView_inputs (s : State) (v : List ViewEntry) : (s.withView v).itm.inputs = s.itm.inputs := by
  simp [State.withView]
@[simp] theorem withView_vs (s : State) (v : List ViewEntry) : (s.withView v).itm.vs = s.itm.vs := by
  simp [State.withView]
@[simp] theorem withView_originEntries (s : State) (v : List ViewEntry) : (s.withView v).origins.entries = s.origins.entries := by
  simp [State.withView]
/-- What an event makes of the view is the view after it. -/
@[simp] theorem withView_view (s : State) (v : List ViewEntry) : (s.withView v).view = v := by
  simp [State.withView]

/-- A view that has not changed hands nothing on. -/
theorem handOnSince_self (s : State) : s.handOnSince s.view = s := by
  unfold State.handOnSince; rw [if_pos]; unfold changedFunctions; simp


/-! ### applyPairs -/

@[simp] theorem applyPairs_hold (s : State) (src : Station) (l : List (Byte × Byte)) : (s.applyPairs src l).hold = s.hold := by
  simp [State.applyPairs]
@[simp] theorem applyPairs_common (s : State) (src : Station) (l : List (Byte × Byte)) : (s.applyPairs src l).common = s.common := by
  simp [State.applyPairs]
@[simp] theorem applyPairs_clock (s : State) (src : Station) (l : List (Byte × Byte)) : (s.applyPairs src l).clock = s.clock := by
  simp [State.applyPairs]
@[simp] theorem applyPairs_flash (s : State) (src : Station) (l : List (Byte × Byte)) : (s.applyPairs src l).flash = s.flash := by
  simp [State.applyPairs]
@[simp] theorem applyPairs_lif (s : State) (src : Station) (l : List (Byte × Byte)) : (s.applyPairs src l).lif = s.lif := by
  simp [State.applyPairs]
@[simp] theorem applyPairs_txq (s : State) (src : Station) (l : List (Byte × Byte)) : (s.applyPairs src l).txq = s.txq := by
  simp [State.applyPairs]
@[simp] theorem applyPairs_peers (s : State) (src : Station) (l : List (Byte × Byte)) : (s.applyPairs src l).peers = s.peers := by
  simp [State.applyPairs]
@[simp] theorem applyPairs_expected (s : State) (src : Station) (l : List (Byte × Byte)) : (s.applyPairs src l).expected = s.expected := by
  simp [State.applyPairs]
@[simp] theorem applyPairs_maps (s : State) (src : Station) (l : List (Byte × Byte)) : (s.applyPairs src l).maps = s.maps := by
  simp [State.applyPairs]
@[simp] theorem applyPairs_cache (s : State) (src : Station) (l : List (Byte × Byte)) : (s.applyPairs src l).cache = s.cache := by
  simp [State.applyPairs]
@[simp] theorem applyPairs_alertSeen (s : State) (src : Station) (l : List (Byte × Byte)) : (s.applyPairs src l).alertSeen = s.alertSeen := by
  simp [State.applyPairs]
@[simp] theorem applyPairs_budget (s : State) (src : Station) (l : List (Byte × Byte)) : (s.applyPairs src l).budget = s.budget := by
  simp [State.applyPairs]
@[simp] theorem applyPairs_pending (s : State) (src : Station) (l : List (Byte × Byte)) : (s.applyPairs src l).pending = s.pending := by
  simp [State.applyPairs]
@[simp] theorem applyPairs_offered (s : State) (src : Station) (l : List (Byte × Byte)) : (s.applyPairs src l).offered = s.offered := by
  simp [State.applyPairs]
@[simp] theorem applyPairs_own (s : State) (src : Station) (l : List (Byte × Byte)) : (s.applyPairs src l).stc.own = s.stc.own := by
  simp [State.applyPairs]
@[simp] theorem applyPairs_inputs (s : State) (src : Station) (l : List (Byte × Byte)) : (s.applyPairs src l).itm.inputs = s.itm.inputs := by
  simp [State.applyPairs]
@[simp] theorem applyPairs_vs (s : State) (src : Station) (l : List (Byte × Byte)) : (s.applyPairs src l).itm.vs = s.itm.vs := by
  simp [State.applyPairs]
@[simp] theorem applyPairs_originEntries (s : State) (src : Station) (l : List (Byte × Byte)) : (s.applyPairs src l).origins.entries = s.origins.entries := by
  simp [State.applyPairs]

/-! ### ownOrigin -/

@[simp] theorem ownOrigin_hold (s : State) (e : Entry) : (s.ownOrigin e).hold = s.hold := by
  simp [State.ownOrigin]
@[simp] theorem ownOrigin_common (s : State) (e : Entry) : (s.ownOrigin e).common = s.common := by
  simp [State.ownOrigin]
@[simp] theorem ownOrigin_clock (s : State) (e : Entry) : (s.ownOrigin e).clock = s.clock := by
  simp [State.ownOrigin]
@[simp] theorem ownOrigin_flash (s : State) (e : Entry) : (s.ownOrigin e).flash = s.flash := by
  simp [State.ownOrigin]
@[simp] theorem ownOrigin_lif (s : State) (e : Entry) : (s.ownOrigin e).lif = s.lif := by
  simp [State.ownOrigin]
@[simp] theorem ownOrigin_txq (s : State) (e : Entry) : (s.ownOrigin e).txq = s.txq := by
  simp [State.ownOrigin]
@[simp] theorem ownOrigin_peers (s : State) (e : Entry) : (s.ownOrigin e).peers = s.peers := by
  simp [State.ownOrigin]
@[simp] theorem ownOrigin_expected (s : State) (e : Entry) : (s.ownOrigin e).expected = s.expected := by
  simp [State.ownOrigin]
@[simp] theorem ownOrigin_maps (s : State) (e : Entry) : (s.ownOrigin e).maps = s.maps := by
  simp [State.ownOrigin]
@[simp] theorem ownOrigin_cache (s : State) (e : Entry) : (s.ownOrigin e).cache = s.cache := by
  simp [State.ownOrigin]
@[simp] theorem ownOrigin_alertSeen (s : State) (e : Entry) : (s.ownOrigin e).alertSeen = s.alertSeen := by
  simp [State.ownOrigin]
@[simp] theorem ownOrigin_budget (s : State) (e : Entry) : (s.ownOrigin e).budget = s.budget := by
  simp [State.ownOrigin]
@[simp] theorem ownOrigin_pending (s : State) (e : Entry) : (s.ownOrigin e).pending = s.pending := by
  simp [State.ownOrigin]
@[simp] theorem ownOrigin_offered (s : State) (e : Entry) : (s.ownOrigin e).offered = s.offered := by
  simp [State.ownOrigin]
@[simp] theorem ownOrigin_own (s : State) (e : Entry) : (s.ownOrigin e).stc.own = s.stc.own := by
  simp [State.ownOrigin]
@[simp] theorem ownOrigin_inputs (s : State) (e : Entry) : (s.ownOrigin e).itm.inputs = s.itm.inputs := by
  simp [State.ownOrigin]
@[simp] theorem ownOrigin_vs (s : State) (e : Entry) : (s.ownOrigin e).itm.vs = s.itm.vs := by
  simp [State.ownOrigin]
@[simp] theorem ownOrigin_originEntries (s : State) (e : Entry) : (s.ownOrigin e).origins.entries = s.origins.entries := by
  simp [State.ownOrigin]
/-- The pairs of one instant leave the view that hearing them one after another leaves (R11, R12). -/
@[simp] theorem applyPairs_view (s : State) (src : Station) (l : List (Byte × Byte)) :
    (s.applyPairs src l).view = hearPairs src l s.view := by simp [State.applyPairs]

/-- A view that stays hands nothing on. -/
theorem withView_self (s : State) : s.withView s.view = s := handOnSince_self s

/-- Without pairs there is no own-origin update. -/
theorem applyPairs_nil (s : State) (src : Station) : s.applyPairs src [] = s := withView_self s

theorem ownOrigin_eq_self {e : Entry} (h : e.pairs = []) (s : State) : s.ownOrigin e = s := by
  simp [State.ownOrigin, h, applyPairs_nil]


/-! ### serviceRestart -/

@[simp] theorem serviceRestart_stc (s : State) : (s.serviceRestart).stc = s.stc := by
  simp [State.serviceRestart]
@[simp] theorem serviceRestart_common (s : State) : (s.serviceRestart).common = s.common := by
  simp [State.serviceRestart]
@[simp] theorem serviceRestart_sched (s : State) : (s.serviceRestart).sched = s.sched := by
  simp [State.serviceRestart]
@[simp] theorem serviceRestart_clock (s : State) : (s.serviceRestart).clock = s.clock := by
  simp [State.serviceRestart]
@[simp] theorem serviceRestart_flash (s : State) : (s.serviceRestart).flash = s.flash := by
  simp [State.serviceRestart]
@[simp] theorem serviceRestart_intrinsics (s : State) : (s.serviceRestart).intrinsics = s.intrinsics := by
  simp [State.serviceRestart]
@[simp] theorem serviceRestart_txq (s : State) : (s.serviceRestart).txq = s.txq := by
  simp [State.serviceRestart]
@[simp] theorem serviceRestart_peers (s : State) : (s.serviceRestart).peers = s.peers := by
  simp [State.serviceRestart]
@[simp] theorem serviceRestart_expected (s : State) : (s.serviceRestart).expected = s.expected := by
  simp [State.serviceRestart]
@[simp] theorem serviceRestart_itm (s : State) : (s.serviceRestart).itm = s.itm := by
  simp [State.serviceRestart]
@[simp] theorem serviceRestart_origins (s : State) : (s.serviceRestart).origins = s.origins := by
  simp [State.serviceRestart]
@[simp] theorem serviceRestart_view (s : State) : (s.serviceRestart).view = s.view := by
  simp [State.serviceRestart]
@[simp] theorem serviceRestart_maps (s : State) : (s.serviceRestart).maps = s.maps := by
  simp [State.serviceRestart]
@[simp] theorem serviceRestart_chans (s : State) : (s.serviceRestart).chans = s.chans := by
  simp [State.serviceRestart]
@[simp] theorem serviceRestart_cache (s : State) : (s.serviceRestart).cache = s.cache := by
  simp [State.serviceRestart]
@[simp] theorem serviceRestart_alertSeen (s : State) : (s.serviceRestart).alertSeen = s.alertSeen := by
  simp [State.serviceRestart]
@[simp] theorem serviceRestart_budget (s : State) : (s.serviceRestart).budget = s.budget := by
  simp [State.serviceRestart]
@[simp] theorem serviceRestart_pending (s : State) : (s.serviceRestart).pending = s.pending := by
  simp [State.serviceRestart]
@[simp] theorem serviceRestart_offered (s : State) : (s.serviceRestart).offered = s.offered := by
  simp [State.serviceRestart]
@[simp] theorem serviceRestart_counters (s : State) : s.serviceRestart.lif.counters = s.lif.counters := by
  simp [State.serviceRestart]
@[simp] theorem serviceRestart_capture (s : State) : s.serviceRestart.lif.capture = s.lif.capture := by
  simp [State.serviceRestart]
@[simp] theorem serviceRestart_listenOnly (s : State) : s.serviceRestart.lif.listenOnly = s.lif.listenOnly := by
  simp [State.serviceRestart]

/-! ### replyGone -/

@[simp] theorem replyGone_stc (s : State) (e : Entry) : (s.replyGone e).stc = s.stc := by
  unfold State.replyGone; (repeat' split) <;> simp
@[simp] theorem replyGone_common (s : State) (e : Entry) : (s.replyGone e).common = s.common := by
  unfold State.replyGone; (repeat' split) <;> simp
@[simp] theorem replyGone_sched (s : State) (e : Entry) : (s.replyGone e).sched = s.sched := by
  unfold State.replyGone; (repeat' split) <;> simp
@[simp] theorem replyGone_clock (s : State) (e : Entry) : (s.replyGone e).clock = s.clock := by
  unfold State.replyGone; (repeat' split) <;> simp
@[simp] theorem replyGone_flash (s : State) (e : Entry) : (s.replyGone e).flash = s.flash := by
  unfold State.replyGone; (repeat' split) <;> simp
@[simp] theorem replyGone_intrinsics (s : State) (e : Entry) : (s.replyGone e).intrinsics = s.intrinsics := by
  unfold State.replyGone; (repeat' split) <;> simp
@[simp] theorem replyGone_txq (s : State) (e : Entry) : (s.replyGone e).txq = s.txq := by
  unfold State.replyGone; (repeat' split) <;> simp
@[simp] theorem replyGone_peers (s : State) (e : Entry) : (s.replyGone e).peers = s.peers := by
  unfold State.replyGone; (repeat' split) <;> simp
@[simp] theorem replyGone_expected (s : State) (e : Entry) : (s.replyGone e).expected = s.expected := by
  unfold State.replyGone; (repeat' split) <;> simp
@[simp] theorem replyGone_itm (s : State) (e : Entry) : (s.replyGone e).itm = s.itm := by
  unfold State.replyGone; (repeat' split) <;> simp
@[simp] theorem replyGone_origins (s : State) (e : Entry) : (s.replyGone e).origins = s.origins := by
  unfold State.replyGone; (repeat' split) <;> simp
@[simp] theorem replyGone_view (s : State) (e : Entry) : (s.replyGone e).view = s.view := by
  unfold State.replyGone; (repeat' split) <;> simp
@[simp] theorem replyGone_maps (s : State) (e : Entry) : (s.replyGone e).maps = s.maps := by
  unfold State.replyGone; (repeat' split) <;> simp
@[simp] theorem replyGone_chans (s : State) (e : Entry) : (s.replyGone e).chans = s.chans := by
  unfold State.replyGone; (repeat' split) <;> simp
@[simp] theorem replyGone_cache (s : State) (e : Entry) : (s.replyGone e).cache = s.cache := by
  unfold State.replyGone; (repeat' split) <;> simp
@[simp] theorem replyGone_alertSeen (s : State) (e : Entry) : (s.replyGone e).alertSeen = s.alertSeen := by
  unfold State.replyGone; (repeat' split) <;> simp
@[simp] theorem replyGone_budget (s : State) (e : Entry) : (s.replyGone e).budget = s.budget := by
  unfold State.replyGone; (repeat' split) <;> simp
@[simp] theorem replyGone_pending (s : State) (e : Entry) : (s.replyGone e).pending = s.pending := by
  unfold State.replyGone; (repeat' split) <;> simp
@[simp] theorem replyGone_offered (s : State) (e : Entry) : (s.replyGone e).offered = s.offered := by
  unfold State.replyGone; (repeat' split) <;> simp
@[simp] theorem replyGone_counters (s : State) (e : Entry) : (s.replyGone e).lif.counters = s.lif.counters := by
  unfold State.replyGone; (repeat' split) <;> simp
@[simp] theorem replyGone_capture (s : State) (e : Entry) : (s.replyGone e).lif.capture = s.lif.capture := by
  unfold State.replyGone; (repeat' split) <;> simp
@[simp] theorem replyGone_listenOnly (s : State) (e : Entry) : (s.replyGone e).lif.listenOnly = s.lif.listenOnly := by
  unfold State.replyGone; (repeat' split) <;> simp

/-! ### entryLost -/

@[simp] theorem entryLost_common (s : State) (e : Entry) : (s.entryLost e).common = s.common := by
  unfold State.entryLost; (repeat' split) <;> simp
@[simp] theorem entryLost_clock (s : State) (e : Entry) : (s.entryLost e).clock = s.clock := by
  unfold State.entryLost; (repeat' split) <;> simp
@[simp] theorem entryLost_flash (s : State) (e : Entry) : (s.entryLost e).flash = s.flash := by
  unfold State.entryLost; (repeat' split) <;> simp
@[simp] theorem entryLost_intrinsics (s : State) (e : Entry) : (s.entryLost e).intrinsics = s.intrinsics := by
  unfold State.entryLost; (repeat' split) <;> simp
@[simp] theorem entryLost_txq (s : State) (e : Entry) : (s.entryLost e).txq = s.txq := by
  unfold State.entryLost; (repeat' split) <;> simp
@[simp] theorem entryLost_peers (s : State) (e : Entry) : (s.entryLost e).peers = s.peers := by
  unfold State.entryLost; (repeat' split) <;> simp
@[simp] theorem entryLost_expected (s : State) (e : Entry) : (s.entryLost e).expected = s.expected := by
  unfold State.entryLost; (repeat' split) <;> simp
@[simp] theorem entryLost_itm (s : State) (e : Entry) : (s.entryLost e).itm = s.itm := by
  unfold State.entryLost; (repeat' split) <;> simp
@[simp] theorem entryLost_origins (s : State) (e : Entry) : (s.entryLost e).origins = s.origins := by
  unfold State.entryLost; (repeat' split) <;> simp
@[simp] theorem entryLost_view (s : State) (e : Entry) : (s.entryLost e).view = s.view := by
  unfold State.entryLost; (repeat' split) <;> simp
@[simp] theorem entryLost_maps (s : State) (e : Entry) : (s.entryLost e).maps = s.maps := by
  unfold State.entryLost; (repeat' split) <;> simp
@[simp] theorem entryLost_chans (s : State) (e : Entry) : (s.entryLost e).chans = s.chans := by
  unfold State.entryLost; (repeat' split) <;> simp
@[simp] theorem entryLost_cache (s : State) (e : Entry) : (s.entryLost e).cache = s.cache := by
  unfold State.entryLost; (repeat' split) <;> simp
@[simp] theorem entryLost_alertSeen (s : State) (e : Entry) : (s.entryLost e).alertSeen = s.alertSeen := by
  unfold State.entryLost; (repeat' split) <;> simp
@[simp] theorem entryLost_budget (s : State) (e : Entry) : (s.entryLost e).budget = s.budget := by
  unfold State.entryLost; (repeat' split) <;> simp
@[simp] theorem entryLost_pending (s : State) (e : Entry) : (s.entryLost e).pending = s.pending := by
  unfold State.entryLost; (repeat' split) <;> simp
@[simp] theorem entryLost_offered (s : State) (e : Entry) : (s.entryLost e).offered = s.offered := by
  unfold State.entryLost; (repeat' split) <;> simp
@[simp] theorem entryLost_own (s : State) (e : Entry) : (s.entryLost e).stc.own = s.stc.own := by
  unfold State.entryLost; (repeat' split) <;> simp
@[simp] theorem entryLost_state (s : State) (e : Entry) : (s.entryLost e).stc.state = s.stc.state := by
  unfold State.entryLost; (repeat' split) <;> simp
@[simp] theorem entryLost_capture (s : State) (e : Entry) : (s.entryLost e).lif.capture = s.lif.capture := by
  unfold State.entryLost; (repeat' split) <;> simp
@[simp] theorem entryLost_listenOnly (s : State) (e : Entry) : (s.entryLost e).lif.listenOnly = s.lif.listenOnly := by
  unfold State.entryLost; (repeat' split) <;> simp

/-! ### displace -/

@[simp] theorem displace_common (s : State) (e : Entry) : (s.displace e).common = s.common := by
  simp [State.displace]
@[simp] theorem displace_clock (s : State) (e : Entry) : (s.displace e).clock = s.clock := by
  simp [State.displace]
@[simp] theorem displace_flash (s : State) (e : Entry) : (s.displace e).flash = s.flash := by
  simp [State.displace]
@[simp] theorem displace_intrinsics (s : State) (e : Entry) : (s.displace e).intrinsics = s.intrinsics := by
  simp [State.displace]
@[simp] theorem displace_peers (s : State) (e : Entry) : (s.displace e).peers = s.peers := by
  simp [State.displace]
@[simp] theorem displace_expected (s : State) (e : Entry) : (s.displace e).expected = s.expected := by
  simp [State.displace]
@[simp] theorem displace_itm (s : State) (e : Entry) : (s.displace e).itm = s.itm := by
  simp [State.displace]
@[simp] theorem displace_origins (s : State) (e : Entry) : (s.displace e).origins = s.origins := by
  simp [State.displace]
@[simp] theorem displace_view (s : State) (e : Entry) : (s.displace e).view = s.view := by
  simp [State.displace]
@[simp] theorem displace_maps (s : State) (e : Entry) : (s.displace e).maps = s.maps := by
  simp [State.displace]
@[simp] theorem displace_chans (s : State) (e : Entry) : (s.displace e).chans = s.chans := by
  simp [State.displace]
@[simp] theorem displace_cache (s : State) (e : Entry) : (s.displace e).cache = s.cache := by
  simp [State.displace]
@[simp] theorem displace_alertSeen (s : State) (e : Entry) : (s.displace e).alertSeen = s.alertSeen := by
  simp [State.displace]
@[simp] theorem displace_budget (s : State) (e : Entry) : (s.displace e).budget = s.budget := by
  simp [State.displace]
@[simp] theorem displace_pending (s : State) (e : Entry) : (s.displace e).pending = s.pending := by
  simp [State.displace]
@[simp] theorem displace_own (s : State) (e : Entry) : (s.displace e).stc.own = s.stc.own := by
  simp [State.displace]
@[simp] theorem displace_state (s : State) (e : Entry) : (s.displace e).stc.state = s.stc.state := by
  simp [State.displace]
@[simp] theorem displace_capture (s : State) (e : Entry) : (s.displace e).lif.capture = s.lif.capture := by
  simp [State.displace]
@[simp] theorem displace_listenOnly (s : State) (e : Entry) : (s.displace e).lif.listenOnly = s.lif.listenOnly := by
  simp [State.displace]
@[simp] theorem displace_seq (s : State) (e : Entry) : (s.displace e).txq.seq = s.txq.seq := by
  simp [State.displace]
@[simp] theorem displace_txq (s : State) (e : Entry) : (s.displace e).txq = s.txq := by
  simp [State.displace]
@[simp] theorem displace_offered (s : State) (e : Entry) : (s.displace e).offered = s.offered := by
  simp [State.displace]

/-! ### dropEntry -/

@[simp] theorem dropEntry_common (s : State) (e : Entry) : (s.dropEntry e).common = s.common := by
  simp [State.dropEntry]
@[simp] theorem dropEntry_clock (s : State) (e : Entry) : (s.dropEntry e).clock = s.clock := by
  simp [State.dropEntry]
@[simp] theorem dropEntry_flash (s : State) (e : Entry) : (s.dropEntry e).flash = s.flash := by
  simp [State.dropEntry]
@[simp] theorem dropEntry_intrinsics (s : State) (e : Entry) : (s.dropEntry e).intrinsics = s.intrinsics := by
  simp [State.dropEntry]
@[simp] theorem dropEntry_peers (s : State) (e : Entry) : (s.dropEntry e).peers = s.peers := by
  simp [State.dropEntry]
@[simp] theorem dropEntry_expected (s : State) (e : Entry) : (s.dropEntry e).expected = s.expected := by
  simp [State.dropEntry]
@[simp] theorem dropEntry_itm (s : State) (e : Entry) : (s.dropEntry e).itm = s.itm := by
  simp [State.dropEntry]
@[simp] theorem dropEntry_origins (s : State) (e : Entry) : (s.dropEntry e).origins = s.origins := by
  simp [State.dropEntry]
@[simp] theorem dropEntry_view (s : State) (e : Entry) : (s.dropEntry e).view = s.view := by
  simp [State.dropEntry]
@[simp] theorem dropEntry_maps (s : State) (e : Entry) : (s.dropEntry e).maps = s.maps := by
  simp [State.dropEntry]
@[simp] theorem dropEntry_chans (s : State) (e : Entry) : (s.dropEntry e).chans = s.chans := by
  simp [State.dropEntry]
@[simp] theorem dropEntry_cache (s : State) (e : Entry) : (s.dropEntry e).cache = s.cache := by
  simp [State.dropEntry]
@[simp] theorem dropEntry_alertSeen (s : State) (e : Entry) : (s.dropEntry e).alertSeen = s.alertSeen := by
  simp [State.dropEntry]
@[simp] theorem dropEntry_budget (s : State) (e : Entry) : (s.dropEntry e).budget = s.budget := by
  simp [State.dropEntry]
@[simp] theorem dropEntry_pending (s : State) (e : Entry) : (s.dropEntry e).pending = s.pending := by
  simp [State.dropEntry]
@[simp] theorem dropEntry_own (s : State) (e : Entry) : (s.dropEntry e).stc.own = s.stc.own := by
  simp [State.dropEntry]
@[simp] theorem dropEntry_state (s : State) (e : Entry) : (s.dropEntry e).stc.state = s.stc.state := by
  simp [State.dropEntry]
@[simp] theorem dropEntry_capture (s : State) (e : Entry) : (s.dropEntry e).lif.capture = s.lif.capture := by
  simp [State.dropEntry]
@[simp] theorem dropEntry_listenOnly (s : State) (e : Entry) : (s.dropEntry e).lif.listenOnly = s.lif.listenOnly := by
  simp [State.dropEntry]
@[simp] theorem dropEntry_seq (s : State) (e : Entry) : (s.dropEntry e).txq.seq = s.txq.seq := by
  simp [State.dropEntry]
@[simp] theorem dropEntry_txq (s : State) (e : Entry) : (s.dropEntry e).txq = s.txq := by
  simp [State.dropEntry]
@[simp] theorem dropEntry_offered (s : State) (e : Entry) : (s.dropEntry e).offered = s.offered := by
  simp [State.dropEntry]

/-! ### place -/

/-- What displacing and dropping entries keeps, placing offers keeps, if it does not depend on queue and offers. -/
theorem place_keeps {β : Type} (g : State → β) (hs : ∀ (s : State) (l : List Entry) (o : InstantOffers),
    g { s.setEntries l with offered := o } = g s) (hd : ∀ (s : State) (e : Entry), g (s.displace e) = g s)
    (hp : ∀ (s : State) (e : Entry), g (s.dropEntry e) = g s) (new : List Offer) (s : State) :
    g (s.place new) = g s := by
  simp only [State.place]
  rw [foldl_keeps g _ hp, foldl_keeps g _ hd, hs]

@[simp] theorem place_common (s : State) (new : List Offer) : (s.place new).common = s.common :=
  place_keeps (fun s => s.common) (fun _ _ _ => rfl) (by simp) (by simp) new s
@[simp] theorem place_clock (s : State) (new : List Offer) : (s.place new).clock = s.clock :=
  place_keeps (fun s => s.clock) (fun _ _ _ => rfl) (by simp) (by simp) new s
@[simp] theorem place_flash (s : State) (new : List Offer) : (s.place new).flash = s.flash :=
  place_keeps (fun s => s.flash) (fun _ _ _ => rfl) (by simp) (by simp) new s
@[simp] theorem place_intrinsics (s : State) (new : List Offer) : (s.place new).intrinsics = s.intrinsics :=
  place_keeps (fun s => s.intrinsics) (fun _ _ _ => rfl) (by simp) (by simp) new s
@[simp] theorem place_peers (s : State) (new : List Offer) : (s.place new).peers = s.peers :=
  place_keeps (fun s => s.peers) (fun _ _ _ => rfl) (by simp) (by simp) new s
@[simp] theorem place_expected (s : State) (new : List Offer) : (s.place new).expected = s.expected :=
  place_keeps (fun s => s.expected) (fun _ _ _ => rfl) (by simp) (by simp) new s
@[simp] theorem place_itm (s : State) (new : List Offer) : (s.place new).itm = s.itm :=
  place_keeps (fun s => s.itm) (fun _ _ _ => rfl) (by simp) (by simp) new s
@[simp] theorem place_origins (s : State) (new : List Offer) : (s.place new).origins = s.origins :=
  place_keeps (fun s => s.origins) (fun _ _ _ => rfl) (by simp) (by simp) new s
@[simp] theorem place_view (s : State) (new : List Offer) : (s.place new).view = s.view :=
  place_keeps (fun s => s.view) (fun _ _ _ => rfl) (by simp) (by simp) new s
@[simp] theorem place_maps (s : State) (new : List Offer) : (s.place new).maps = s.maps :=
  place_keeps (fun s => s.maps) (fun _ _ _ => rfl) (by simp) (by simp) new s
@[simp] theorem place_chans (s : State) (new : List Offer) : (s.place new).chans = s.chans :=
  place_keeps (fun s => s.chans) (fun _ _ _ => rfl) (by simp) (by simp) new s
@[simp] theorem place_cache (s : State) (new : List Offer) : (s.place new).cache = s.cache :=
  place_keeps (fun s => s.cache) (fun _ _ _ => rfl) (by simp) (by simp) new s
@[simp] theorem place_alertSeen (s : State) (new : List Offer) : (s.place new).alertSeen = s.alertSeen :=
  place_keeps (fun s => s.alertSeen) (fun _ _ _ => rfl) (by simp) (by simp) new s
@[simp] theorem place_budget (s : State) (new : List Offer) : (s.place new).budget = s.budget :=
  place_keeps (fun s => s.budget) (fun _ _ _ => rfl) (by simp) (by simp) new s
@[simp] theorem place_pending (s : State) (new : List Offer) : (s.place new).pending = s.pending :=
  place_keeps (fun s => s.pending) (fun _ _ _ => rfl) (by simp) (by simp) new s
@[simp] theorem place_own (s : State) (new : List Offer) : (s.place new).stc.own = s.stc.own :=
  place_keeps (fun s => s.stc.own) (fun _ _ _ => rfl) (by simp) (by simp) new s
@[simp] theorem place_state (s : State) (new : List Offer) : (s.place new).stc.state = s.stc.state :=
  place_keeps (fun s => s.stc.state) (fun _ _ _ => rfl) (by simp) (by simp) new s
@[simp] theorem place_capture (s : State) (new : List Offer) : (s.place new).lif.capture = s.lif.capture :=
  place_keeps (fun s => s.lif.capture) (fun _ _ _ => rfl) (by simp) (by simp) new s
@[simp] theorem place_listenOnly (s : State) (new : List Offer) : (s.place new).lif.listenOnly = s.lif.listenOnly :=
  place_keeps (fun s => s.lif.listenOnly) (fun _ _ _ => rfl) (by simp) (by simp) new s
@[simp] theorem place_seq (s : State) (new : List Offer) : (s.place new).txq.seq = s.txq.seq :=
  place_keeps (fun s => s.txq.seq) (fun _ _ _ => rfl) (by simp) (by simp) new s
/-- The queue after offers is that on which those of the instant have been placed together (R151). -/
@[simp] theorem place_entries (s : State) (new : List Offer) : (s.place new).txq.entries = (s.placedWith new).entries := by
  simp only [State.place]
  rw [foldl_keeps (fun s => s.txq.entries) _ (by simp), foldl_keeps (fun s => s.txq.entries) _ (by simp)]
  rfl
/-- The offers of the instant after offers. -/
@[simp] theorem place_offered (s : State) (new : List Offer) :
    (s.place new).offered = { s.group with offers := insertOffers new s.group.offers } := by
  simp only [State.place]
  rw [foldl_keeps (fun s => s.offered) _ (by simp), foldl_keeps (fun s => s.offered) _ (by simp)]

/-- Before the first offer of an instant its group is empty, on the queue as it stands. -/
theorem group_of_none {s : State} (h : s.offered.offers = []) :
    s.group.offers = [] ∧ s.group.before = s.txq.entries ∧ s.group.statusMade = s.offered.statusMade := by
  unfold State.group; split
  · rename_i e; simpa [h, placeAll] using e.1
  · simp

/-- The group of an instant is placed in the queue as it stands. -/
theorem placedSoFar_entries (s : State) : s.placedSoFar.entries = s.txq.entries := by
  unfold State.placedSoFar State.group; split
  · exact And.left ‹_›
  · rfl

/-- The group of an instant stands in the order of R151. -/
theorem group_inOrder (s : State) : OffersInOrder s.group.offers := by
  unfold State.group; split
  · exact And.right ‹_›
  · exact .nil

/-- A first offer is the only one. -/
@[simp] theorem insertOffers_one (o : Offer) : insertOffers [o] [] = [o] := rfl

/-- The first offers of an instant are placed on the queue as it stands (R151). -/
theorem placedWith_of_none {s : State} (h : s.offered.offers = []) (new : List Offer) :
    s.placedWith new = placeAll (insertOffers new []) s.txq.entries := by
  simp [State.placedWith, group_of_none h]

/-- An offer that comes in among others is added to them. -/
theorem insertOffer_perm (o : Offer) (l : List Offer) : (insertOffer o l).Perm (o :: l) := by
  induction l with
  | nil => exact .refl _
  | cons x rest ih =>
    unfold insertOffer; split
    · exact .refl _
    · exact (ih.cons x).trans (.swap o x rest)

/-- Offers that come in among others are added to them. -/
theorem insertOffers_perm (new l : List Offer) : (insertOffers new l).Perm (new ++ l) := by
  induction new generalizing l with
  | nil => exact .refl _
  | cons o rest ih => exact (ih _).trans (((insertOffer_perm o l).append_left rest).trans List.perm_middle)

/-- Offers in the order of R151 stay so when another comes in. -/
theorem insertOffer_sorted (o : Offer) {l : List Offer} (h : OffersInOrder l) : OffersInOrder (insertOffer o l) := by
  induction l with
  | nil => exact List.pairwise_singleton ..
  | cons x rest ih =>
    obtain ⟨head, tail⟩ := List.pairwise_cons.1 h
    unfold insertOffer; split
    · rename_i first
      exact List.pairwise_cons.2 ⟨fun y hy => (List.mem_cons.1 hy).elim (fun e => e ▸ first.le)
        (fun m => first.le.trans (head y m)), h⟩
    · rename_i later
      refine List.pairwise_cons.2 ⟨fun y hy => ?_, ih tail⟩
      rcases List.mem_cons.1 ((insertOffer_perm o rest).subset hy) with rfl | m
      · exact Nat.le_of_not_lt later
      · exact head y m

/-- The offers of an instant stay in the order of R151. -/
theorem insertOffers_sorted (new : List Offer) {l : List Offer} (h : OffersInOrder l) :
    OffersInOrder (insertOffers new l) := by
  induction new generalizing l with
  | nil => exact h
  | cons o rest ih => exact ih (insertOffer_sorted o h)

/-- After an offer the offers of the instant stand in the order of R151, whatever stood there before. -/
theorem place_inOrder (s : State) (new : List Offer) : OffersInOrder (s.place new).offered.offers := by
  rw [place_offered]
  exact insertOffers_sorted new (group_inOrder s)

/-- A STATUS that takes other values keeps its place among the offers of its instant, and they their order (R154). -/
theorem putStatus_inOrder (s : State) (x : StatusBody) : OffersInOrder (s.putStatus x).offered.offers := by
  unfold State.putStatus
  split
  · refine List.pairwise_map.2 ((group_inOrder s).imp fun {a b} h => ?_)
    have key : ∀ o : Offer, (if o.isStatus = true then Offer.status x else o).key = o.key := by
      intro o; cases o <;> rfl
    rw [key, key]
    exact h
  · exact place_inOrder s _

/-! ### offerPairs -/

@[simp] theorem offerPairs_common (s : State) (l : List (Byte × Byte)) : (s.offerPairs l).common = s.common := by
  unfold State.offerPairs; split <;> simp
@[simp] theorem offerPairs_clock (s : State) (l : List (Byte × Byte)) : (s.offerPairs l).clock = s.clock := by
  unfold State.offerPairs; split <;> simp
@[simp] theorem offerPairs_flash (s : State) (l : List (Byte × Byte)) : (s.offerPairs l).flash = s.flash := by
  unfold State.offerPairs; split <;> simp
@[simp] theorem offerPairs_peers (s : State) (l : List (Byte × Byte)) : (s.offerPairs l).peers = s.peers := by
  unfold State.offerPairs; split <;> simp
@[simp] theorem offerPairs_expected (s : State) (l : List (Byte × Byte)) : (s.offerPairs l).expected = s.expected := by
  unfold State.offerPairs; split <;> simp
@[simp] theorem offerPairs_maps (s : State) (l : List (Byte × Byte)) : (s.offerPairs l).maps = s.maps := by
  unfold State.offerPairs; split <;> simp
@[simp] theorem offerPairs_cache (s : State) (l : List (Byte × Byte)) : (s.offerPairs l).cache = s.cache := by
  unfold State.offerPairs; split <;> simp
@[simp] theorem offerPairs_alertSeen (s : State) (l : List (Byte × Byte)) : (s.offerPairs l).alertSeen = s.alertSeen := by
  unfold State.offerPairs; split <;> simp
@[simp] theorem offerPairs_budget (s : State) (l : List (Byte × Byte)) : (s.offerPairs l).budget = s.budget := by
  unfold State.offerPairs; split <;> simp
@[simp] theorem offerPairs_pending (s : State) (l : List (Byte × Byte)) : (s.offerPairs l).pending = s.pending := by
  unfold State.offerPairs; split <;> simp
@[simp] theorem offerPairs_own (s : State) (l : List (Byte × Byte)) : (s.offerPairs l).stc.own = s.stc.own := by
  unfold State.offerPairs; split <;> simp
@[simp] theorem offerPairs_inputs (s : State) (l : List (Byte × Byte)) : (s.offerPairs l).itm.inputs = s.itm.inputs := by
  unfold State.offerPairs; split <;> simp
@[simp] theorem offerPairs_vs (s : State) (l : List (Byte × Byte)) : (s.offerPairs l).itm.vs = s.itm.vs := by
  unfold State.offerPairs; split <;> simp
@[simp] theorem offerPairs_originEntries (s : State) (l : List (Byte × Byte)) : (s.offerPairs l).origins.entries = s.origins.entries := by
  unfold State.offerPairs; split <;> simp
@[simp] theorem offerPairs_capture (s : State) (l : List (Byte × Byte)) : (s.offerPairs l).lif.capture = s.lif.capture := by
  unfold State.offerPairs; split <;> simp
@[simp] theorem offerPairs_listenOnly (s : State) (l : List (Byte × Byte)) : (s.offerPairs l).lif.listenOnly = s.lif.listenOnly := by
  unfold State.offerPairs; split <;> simp
@[simp] theorem offerPairs_seq (s : State) (l : List (Byte × Byte)) : (s.offerPairs l).txq.seq = s.txq.seq := by
  unfold State.offerPairs; split <;> simp

/-! ### offerReading -/

@[simp] theorem offerReading_common (s : State) : (s.offerReading).common = s.common := by
  unfold State.offerReading; split <;> simp
@[simp] theorem offerReading_clock (s : State) : (s.offerReading).clock = s.clock := by
  unfold State.offerReading; split <;> simp
@[simp] theorem offerReading_flash (s : State) : (s.offerReading).flash = s.flash := by
  unfold State.offerReading; split <;> simp
@[simp] theorem offerReading_intrinsics (s : State) : (s.offerReading).intrinsics = s.intrinsics := by
  unfold State.offerReading; split <;> simp
@[simp] theorem offerReading_peers (s : State) : (s.offerReading).peers = s.peers := by
  unfold State.offerReading; split <;> simp
@[simp] theorem offerReading_expected (s : State) : (s.offerReading).expected = s.expected := by
  unfold State.offerReading; split <;> simp
@[simp] theorem offerReading_itm (s : State) : (s.offerReading).itm = s.itm := by
  unfold State.offerReading; split <;> simp
@[simp] theorem offerReading_origins (s : State) : (s.offerReading).origins = s.origins := by
  unfold State.offerReading; split <;> simp
@[simp] theorem offerReading_view (s : State) : (s.offerReading).view = s.view := by
  unfold State.offerReading; split <;> simp
@[simp] theorem offerReading_maps (s : State) : (s.offerReading).maps = s.maps := by
  unfold State.offerReading; split <;> simp
@[simp] theorem offerReading_chans (s : State) : (s.offerReading).chans = s.chans := by
  unfold State.offerReading; split <;> simp
@[simp] theorem offerReading_cache (s : State) : (s.offerReading).cache = s.cache := by
  unfold State.offerReading; split <;> simp
@[simp] theorem offerReading_alertSeen (s : State) : (s.offerReading).alertSeen = s.alertSeen := by
  unfold State.offerReading; split <;> simp
@[simp] theorem offerReading_budget (s : State) : (s.offerReading).budget = s.budget := by
  unfold State.offerReading; split <;> simp
@[simp] theorem offerReading_pending (s : State) : (s.offerReading).pending = s.pending := by
  unfold State.offerReading; split <;> simp
@[simp] theorem offerReading_own (s : State) : (s.offerReading).stc.own = s.stc.own := by
  unfold State.offerReading; split <;> simp
@[simp] theorem offerReading_state (s : State) : (s.offerReading).stc.state = s.stc.state := by
  unfold State.offerReading; split <;> simp
@[simp] theorem offerReading_capture (s : State) : (s.offerReading).lif.capture = s.lif.capture := by
  unfold State.offerReading; split <;> simp
@[simp] theorem offerReading_listenOnly (s : State) : (s.offerReading).lif.listenOnly = s.lif.listenOnly := by
  unfold State.offerReading; split <;> simp
@[simp] theorem offerReading_seq (s : State) : (s.offerReading).txq.seq = s.txq.seq := by
  unfold State.offerReading; split <;> simp

/-! ### offerAlert -/

@[simp] theorem offerAlert_common (s : State) (c : AlertCode) (k : Nat) : (s.offerAlert c k).common = s.common := by
  simp [State.offerAlert]
@[simp] theorem offerAlert_clock (s : State) (c : AlertCode) (k : Nat) : (s.offerAlert c k).clock = s.clock := by
  simp [State.offerAlert]
@[simp] theorem offerAlert_flash (s : State) (c : AlertCode) (k : Nat) : (s.offerAlert c k).flash = s.flash := by
  simp [State.offerAlert]
@[simp] theorem offerAlert_peers (s : State) (c : AlertCode) (k : Nat) : (s.offerAlert c k).peers = s.peers := by
  simp [State.offerAlert]
@[simp] theorem offerAlert_expected (s : State) (c : AlertCode) (k : Nat) : (s.offerAlert c k).expected = s.expected := by
  simp [State.offerAlert]
@[simp] theorem offerAlert_maps (s : State) (c : AlertCode) (k : Nat) : (s.offerAlert c k).maps = s.maps := by
  simp [State.offerAlert]
@[simp] theorem offerAlert_cache (s : State) (c : AlertCode) (k : Nat) : (s.offerAlert c k).cache = s.cache := by
  simp [State.offerAlert]
@[simp] theorem offerAlert_alertSeen (s : State) (c : AlertCode) (k : Nat) : (s.offerAlert c k).alertSeen = s.alertSeen := by
  simp [State.offerAlert]
@[simp] theorem offerAlert_budget (s : State) (c : AlertCode) (k : Nat) : (s.offerAlert c k).budget = s.budget := by
  simp [State.offerAlert]
@[simp] theorem offerAlert_pending (s : State) (c : AlertCode) (k : Nat) : (s.offerAlert c k).pending = s.pending := by
  simp [State.offerAlert]
@[simp] theorem offerAlert_own (s : State) (c : AlertCode) (k : Nat) : (s.offerAlert c k).stc.own = s.stc.own := by
  simp [State.offerAlert]
@[simp] theorem offerAlert_inputs (s : State) (c : AlertCode) (k : Nat) : (s.offerAlert c k).itm.inputs = s.itm.inputs := by
  simp [State.offerAlert]
@[simp] theorem offerAlert_vs (s : State) (c : AlertCode) (k : Nat) : (s.offerAlert c k).itm.vs = s.itm.vs := by
  simp [State.offerAlert]
@[simp] theorem offerAlert_originEntries (s : State) (c : AlertCode) (k : Nat) : (s.offerAlert c k).origins.entries = s.origins.entries := by
  simp [State.offerAlert]
@[simp] theorem offerAlert_capture (s : State) (c : AlertCode) (k : Nat) : (s.offerAlert c k).lif.capture = s.lif.capture := by
  simp [State.offerAlert]
@[simp] theorem offerAlert_listenOnly (s : State) (c : AlertCode) (k : Nat) : (s.offerAlert c k).lif.listenOnly = s.lif.listenOnly := by
  simp [State.offerAlert]
@[simp] theorem offerAlert_seq (s : State) (c : AlertCode) (k : Nat) : (s.offerAlert c k).txq.seq = s.txq.seq := by
  simp [State.offerAlert]

/-! ### offerReply -/

@[simp] theorem offerReply_common (s : State) (p : Station) (i : Byte) (r : ReplyResult) (l : List Byte) : (s.offerReply p i r l).common = s.common := by
  simp [State.offerReply]
@[simp] theorem offerReply_clock (s : State) (p : Station) (i : Byte) (r : ReplyResult) (l : List Byte) : (s.offerReply p i r l).clock = s.clock := by
  simp [State.offerReply]
@[simp] theorem offerReply_flash (s : State) (p : Station) (i : Byte) (r : ReplyResult) (l : List Byte) : (s.offerReply p i r l).flash = s.flash := by
  simp [State.offerReply]
@[simp] theorem offerReply_intrinsics (s : State) (p : Station) (i : Byte) (r : ReplyResult) (l : List Byte) : (s.offerReply p i r l).intrinsics = s.intrinsics := by
  simp [State.offerReply]
@[simp] theorem offerReply_peers (s : State) (p : Station) (i : Byte) (r : ReplyResult) (l : List Byte) : (s.offerReply p i r l).peers = s.peers := by
  simp [State.offerReply]
@[simp] theorem offerReply_expected (s : State) (p : Station) (i : Byte) (r : ReplyResult) (l : List Byte) : (s.offerReply p i r l).expected = s.expected := by
  simp [State.offerReply]
@[simp] theorem offerReply_itm (s : State) (p : Station) (i : Byte) (r : ReplyResult) (l : List Byte) : (s.offerReply p i r l).itm = s.itm := by
  simp [State.offerReply]
@[simp] theorem offerReply_origins (s : State) (p : Station) (i : Byte) (r : ReplyResult) (l : List Byte) : (s.offerReply p i r l).origins = s.origins := by
  simp [State.offerReply]
@[simp] theorem offerReply_view (s : State) (p : Station) (i : Byte) (r : ReplyResult) (l : List Byte) : (s.offerReply p i r l).view = s.view := by
  simp [State.offerReply]
@[simp] theorem offerReply_maps (s : State) (p : Station) (i : Byte) (r : ReplyResult) (l : List Byte) : (s.offerReply p i r l).maps = s.maps := by
  simp [State.offerReply]
@[simp] theorem offerReply_chans (s : State) (p : Station) (i : Byte) (r : ReplyResult) (l : List Byte) : (s.offerReply p i r l).chans = s.chans := by
  simp [State.offerReply]
@[simp] theorem offerReply_cache (s : State) (p : Station) (i : Byte) (r : ReplyResult) (l : List Byte) : (s.offerReply p i r l).cache = s.cache := by
  simp [State.offerReply]
@[simp] theorem offerReply_alertSeen (s : State) (p : Station) (i : Byte) (r : ReplyResult) (l : List Byte) : (s.offerReply p i r l).alertSeen = s.alertSeen := by
  simp [State.offerReply]
@[simp] theorem offerReply_budget (s : State) (p : Station) (i : Byte) (r : ReplyResult) (l : List Byte) : (s.offerReply p i r l).budget = s.budget := by
  simp [State.offerReply]
@[simp] theorem offerReply_pending (s : State) (p : Station) (i : Byte) (r : ReplyResult) (l : List Byte) : (s.offerReply p i r l).pending = s.pending := by
  simp [State.offerReply]
@[simp] theorem offerReply_own (s : State) (p : Station) (i : Byte) (r : ReplyResult) (l : List Byte) : (s.offerReply p i r l).stc.own = s.stc.own := by
  simp [State.offerReply]
@[simp] theorem offerReply_state (s : State) (p : Station) (i : Byte) (r : ReplyResult) (l : List Byte) : (s.offerReply p i r l).stc.state = s.stc.state := by
  simp [State.offerReply]
@[simp] theorem offerReply_capture (s : State) (p : Station) (i : Byte) (r : ReplyResult) (l : List Byte) : (s.offerReply p i r l).lif.capture = s.lif.capture := by
  simp [State.offerReply]
@[simp] theorem offerReply_listenOnly (s : State) (p : Station) (i : Byte) (r : ReplyResult) (l : List Byte) : (s.offerReply p i r l).lif.listenOnly = s.lif.listenOnly := by
  simp [State.offerReply]
@[simp] theorem offerReply_seq (s : State) (p : Station) (i : Byte) (r : ReplyResult) (l : List Byte) : (s.offerReply p i r l).txq.seq = s.txq.seq := by
  simp [State.offerReply]

/-! ### offerStatus -/

@[simp] theorem offerStatus_common (s : State) (x : StatusBody) : (s.offerStatus x).common = s.common := by
  simp [State.offerStatus]
@[simp] theorem offerStatus_clock (s : State) (x : StatusBody) : (s.offerStatus x).clock = s.clock := by
  simp [State.offerStatus]
@[simp] theorem offerStatus_flash (s : State) (x : StatusBody) : (s.offerStatus x).flash = s.flash := by
  simp [State.offerStatus]
@[simp] theorem offerStatus_intrinsics (s : State) (x : StatusBody) : (s.offerStatus x).intrinsics = s.intrinsics := by
  simp [State.offerStatus]
@[simp] theorem offerStatus_peers (s : State) (x : StatusBody) : (s.offerStatus x).peers = s.peers := by
  simp [State.offerStatus]
@[simp] theorem offerStatus_expected (s : State) (x : StatusBody) : (s.offerStatus x).expected = s.expected := by
  simp [State.offerStatus]
@[simp] theorem offerStatus_itm (s : State) (x : StatusBody) : (s.offerStatus x).itm = s.itm := by
  simp [State.offerStatus]
@[simp] theorem offerStatus_origins (s : State) (x : StatusBody) : (s.offerStatus x).origins = s.origins := by
  simp [State.offerStatus]
@[simp] theorem offerStatus_view (s : State) (x : StatusBody) : (s.offerStatus x).view = s.view := by
  simp [State.offerStatus]
@[simp] theorem offerStatus_maps (s : State) (x : StatusBody) : (s.offerStatus x).maps = s.maps := by
  simp [State.offerStatus]
@[simp] theorem offerStatus_chans (s : State) (x : StatusBody) : (s.offerStatus x).chans = s.chans := by
  simp [State.offerStatus]
@[simp] theorem offerStatus_cache (s : State) (x : StatusBody) : (s.offerStatus x).cache = s.cache := by
  simp [State.offerStatus]
@[simp] theorem offerStatus_alertSeen (s : State) (x : StatusBody) : (s.offerStatus x).alertSeen = s.alertSeen := by
  simp [State.offerStatus]
@[simp] theorem offerStatus_budget (s : State) (x : StatusBody) : (s.offerStatus x).budget = s.budget := by
  simp [State.offerStatus]
@[simp] theorem offerStatus_pending (s : State) (x : StatusBody) : (s.offerStatus x).pending = s.pending := by
  simp [State.offerStatus]
@[simp] theorem offerStatus_own (s : State) (x : StatusBody) : (s.offerStatus x).stc.own = s.stc.own := by
  simp [State.offerStatus]
@[simp] theorem offerStatus_state (s : State) (x : StatusBody) : (s.offerStatus x).stc.state = s.stc.state := by
  simp [State.offerStatus]
@[simp] theorem offerStatus_capture (s : State) (x : StatusBody) : (s.offerStatus x).lif.capture = s.lif.capture := by
  simp [State.offerStatus]
@[simp] theorem offerStatus_listenOnly (s : State) (x : StatusBody) : (s.offerStatus x).lif.listenOnly = s.lif.listenOnly := by
  simp [State.offerStatus]
@[simp] theorem offerStatus_seq (s : State) (x : StatusBody) : (s.offerStatus x).txq.seq = s.txq.seq := by
  simp [State.offerStatus]

/-! ### putStatus -/

@[simp] theorem putStatus_common (s : State) (x : StatusBody) : (s.putStatus x).common = s.common := by
  unfold State.putStatus; split <;> simp
@[simp] theorem putStatus_clock (s : State) (x : StatusBody) : (s.putStatus x).clock = s.clock := by
  unfold State.putStatus; split <;> simp
@[simp] theorem putStatus_flash (s : State) (x : StatusBody) : (s.putStatus x).flash = s.flash := by
  unfold State.putStatus; split <;> simp
@[simp] theorem putStatus_intrinsics (s : State) (x : StatusBody) : (s.putStatus x).intrinsics = s.intrinsics := by
  unfold State.putStatus; split <;> simp
@[simp] theorem putStatus_peers (s : State) (x : StatusBody) : (s.putStatus x).peers = s.peers := by
  unfold State.putStatus; split <;> simp
@[simp] theorem putStatus_expected (s : State) (x : StatusBody) : (s.putStatus x).expected = s.expected := by
  unfold State.putStatus; split <;> simp
@[simp] theorem putStatus_itm (s : State) (x : StatusBody) : (s.putStatus x).itm = s.itm := by
  unfold State.putStatus; split <;> simp
@[simp] theorem putStatus_origins (s : State) (x : StatusBody) : (s.putStatus x).origins = s.origins := by
  unfold State.putStatus; split <;> simp
@[simp] theorem putStatus_view (s : State) (x : StatusBody) : (s.putStatus x).view = s.view := by
  unfold State.putStatus; split <;> simp
@[simp] theorem putStatus_maps (s : State) (x : StatusBody) : (s.putStatus x).maps = s.maps := by
  unfold State.putStatus; split <;> simp
@[simp] theorem putStatus_chans (s : State) (x : StatusBody) : (s.putStatus x).chans = s.chans := by
  unfold State.putStatus; split <;> simp
@[simp] theorem putStatus_cache (s : State) (x : StatusBody) : (s.putStatus x).cache = s.cache := by
  unfold State.putStatus; split <;> simp
@[simp] theorem putStatus_alertSeen (s : State) (x : StatusBody) : (s.putStatus x).alertSeen = s.alertSeen := by
  unfold State.putStatus; split <;> simp
@[simp] theorem putStatus_budget (s : State) (x : StatusBody) : (s.putStatus x).budget = s.budget := by
  unfold State.putStatus; split <;> simp
@[simp] theorem putStatus_pending (s : State) (x : StatusBody) : (s.putStatus x).pending = s.pending := by
  unfold State.putStatus; split <;> simp
@[simp] theorem putStatus_own (s : State) (x : StatusBody) : (s.putStatus x).stc.own = s.stc.own := by
  unfold State.putStatus; split <;> simp
@[simp] theorem putStatus_state (s : State) (x : StatusBody) : (s.putStatus x).stc.state = s.stc.state := by
  unfold State.putStatus; split <;> simp
@[simp] theorem putStatus_capture (s : State) (x : StatusBody) : (s.putStatus x).lif.capture = s.lif.capture := by
  unfold State.putStatus; split <;> simp
@[simp] theorem putStatus_listenOnly (s : State) (x : StatusBody) : (s.putStatus x).lif.listenOnly = s.lif.listenOnly := by
  unfold State.putStatus; split <;> simp
@[simp] theorem putStatus_seq (s : State) (x : StatusBody) : (s.putStatus x).txq.seq = s.txq.seq := by
  unfold State.putStatus; split <;> simp

/-! ### makeStatus -/

@[simp] theorem makeStatus_common (s : State) : (s.makeStatus).common = s.common := by
  simp [State.makeStatus]
@[simp] theorem makeStatus_clock (s : State) : (s.makeStatus).clock = s.clock := by
  simp [State.makeStatus]
@[simp] theorem makeStatus_flash (s : State) : (s.makeStatus).flash = s.flash := by
  simp [State.makeStatus]
@[simp] theorem makeStatus_intrinsics (s : State) : (s.makeStatus).intrinsics = s.intrinsics := by
  simp [State.makeStatus]
@[simp] theorem makeStatus_peers (s : State) : (s.makeStatus).peers = s.peers := by
  simp [State.makeStatus]
@[simp] theorem makeStatus_expected (s : State) : (s.makeStatus).expected = s.expected := by
  simp [State.makeStatus]
@[simp] theorem makeStatus_itm (s : State) : (s.makeStatus).itm = s.itm := by
  simp [State.makeStatus]
@[simp] theorem makeStatus_origins (s : State) : (s.makeStatus).origins = s.origins := by
  simp [State.makeStatus]
@[simp] theorem makeStatus_view (s : State) : (s.makeStatus).view = s.view := by
  simp [State.makeStatus]
@[simp] theorem makeStatus_maps (s : State) : (s.makeStatus).maps = s.maps := by
  simp [State.makeStatus]
@[simp] theorem makeStatus_chans (s : State) : (s.makeStatus).chans = s.chans := by
  simp [State.makeStatus]
@[simp] theorem makeStatus_cache (s : State) : (s.makeStatus).cache = s.cache := by
  simp [State.makeStatus]
@[simp] theorem makeStatus_alertSeen (s : State) : (s.makeStatus).alertSeen = s.alertSeen := by
  simp [State.makeStatus]
@[simp] theorem makeStatus_budget (s : State) : (s.makeStatus).budget = s.budget := by
  simp [State.makeStatus]
@[simp] theorem makeStatus_pending (s : State) : (s.makeStatus).pending = s.pending := by
  simp [State.makeStatus]
@[simp] theorem makeStatus_own (s : State) : (s.makeStatus).stc.own = s.stc.own := by
  simp [State.makeStatus]
@[simp] theorem makeStatus_state (s : State) : (s.makeStatus).stc.state = s.stc.state := by
  simp [State.makeStatus]
@[simp] theorem makeStatus_capture (s : State) : (s.makeStatus).lif.capture = s.lif.capture := by
  simp [State.makeStatus]
@[simp] theorem makeStatus_listenOnly (s : State) : (s.makeStatus).lif.listenOnly = s.lif.listenOnly := by
  simp [State.makeStatus]
@[simp] theorem makeStatus_seq (s : State) : (s.makeStatus).txq.seq = s.txq.seq := by
  simp [State.makeStatus]

/-! ### renewStatus -/

@[simp] theorem renewStatus_common (s : State) : (s.renewStatus).common = s.common := by
  unfold State.renewStatus; split <;> simp
@[simp] theorem renewStatus_clock (s : State) : (s.renewStatus).clock = s.clock := by
  unfold State.renewStatus; split <;> simp
@[simp] theorem renewStatus_flash (s : State) : (s.renewStatus).flash = s.flash := by
  unfold State.renewStatus; split <;> simp
@[simp] theorem renewStatus_intrinsics (s : State) : (s.renewStatus).intrinsics = s.intrinsics := by
  unfold State.renewStatus; split <;> simp
@[simp] theorem renewStatus_peers (s : State) : (s.renewStatus).peers = s.peers := by
  unfold State.renewStatus; split <;> simp
@[simp] theorem renewStatus_expected (s : State) : (s.renewStatus).expected = s.expected := by
  unfold State.renewStatus; split <;> simp
@[simp] theorem renewStatus_itm (s : State) : (s.renewStatus).itm = s.itm := by
  unfold State.renewStatus; split <;> simp
@[simp] theorem renewStatus_origins (s : State) : (s.renewStatus).origins = s.origins := by
  unfold State.renewStatus; split <;> simp
@[simp] theorem renewStatus_view (s : State) : (s.renewStatus).view = s.view := by
  unfold State.renewStatus; split <;> simp
@[simp] theorem renewStatus_maps (s : State) : (s.renewStatus).maps = s.maps := by
  unfold State.renewStatus; split <;> simp
@[simp] theorem renewStatus_chans (s : State) : (s.renewStatus).chans = s.chans := by
  unfold State.renewStatus; split <;> simp
@[simp] theorem renewStatus_cache (s : State) : (s.renewStatus).cache = s.cache := by
  unfold State.renewStatus; split <;> simp
@[simp] theorem renewStatus_alertSeen (s : State) : (s.renewStatus).alertSeen = s.alertSeen := by
  unfold State.renewStatus; split <;> simp
@[simp] theorem renewStatus_budget (s : State) : (s.renewStatus).budget = s.budget := by
  unfold State.renewStatus; split <;> simp
@[simp] theorem renewStatus_pending (s : State) : (s.renewStatus).pending = s.pending := by
  unfold State.renewStatus; split <;> simp
@[simp] theorem renewStatus_own (s : State) : (s.renewStatus).stc.own = s.stc.own := by
  unfold State.renewStatus; split <;> simp
@[simp] theorem renewStatus_state (s : State) : (s.renewStatus).stc.state = s.stc.state := by
  unfold State.renewStatus; split <;> simp
@[simp] theorem renewStatus_capture (s : State) : (s.renewStatus).lif.capture = s.lif.capture := by
  unfold State.renewStatus; split <;> simp
@[simp] theorem renewStatus_listenOnly (s : State) : (s.renewStatus).lif.listenOnly = s.lif.listenOnly := by
  unfold State.renewStatus; split <;> simp
@[simp] theorem renewStatus_seq (s : State) : (s.renewStatus).txq.seq = s.txq.seq := by
  unfold State.renewStatus; split <;> simp

/-- An instant that has made no STATUS leaves the queue as it is (R154). -/
theorem renewStatus_eq_self {s : State} (h : s.offered.statusMade = false) : s.renewStatus = s := by
  simp [State.renewStatus, h]

/-! ### The end of an instant -/


/-! ### recompose -/

@[simp] theorem recompose_hold (s : State) : (s.recompose).hold = s.hold := by
  rfl
@[simp] theorem recompose_stc (s : State) : (s.recompose).stc = s.stc := by
  rfl
@[simp] theorem recompose_common (s : State) : (s.recompose).common = s.common := by
  rfl
@[simp] theorem recompose_sched (s : State) : (s.recompose).sched = s.sched := by
  rfl
@[simp] theorem recompose_clock (s : State) : (s.recompose).clock = s.clock := by
  rfl
@[simp] theorem recompose_flash (s : State) : (s.recompose).flash = s.flash := by
  rfl
@[simp] theorem recompose_intrinsics (s : State) : (s.recompose).intrinsics = s.intrinsics := by
  rfl
@[simp] theorem recompose_lif (s : State) : (s.recompose).lif = s.lif := by
  rfl
@[simp] theorem recompose_txq (s : State) : (s.recompose).txq = s.txq := by
  rfl
@[simp] theorem recompose_peers (s : State) : (s.recompose).peers = s.peers := by
  rfl
@[simp] theorem recompose_expected (s : State) : (s.recompose).expected = s.expected := by
  rfl
@[simp] theorem recompose_itm (s : State) : (s.recompose).itm = s.itm := by
  rfl
@[simp] theorem recompose_origins (s : State) : (s.recompose).origins = s.origins := by
  rfl
@[simp] theorem recompose_view (s : State) : (s.recompose).view = s.view := by
  rfl
@[simp] theorem recompose_maps (s : State) : (s.recompose).maps = s.maps := by
  rfl
@[simp] theorem recompose_cache (s : State) : (s.recompose).cache = s.cache := by
  rfl
@[simp] theorem recompose_alertSeen (s : State) : (s.recompose).alertSeen = s.alertSeen := by
  rfl
@[simp] theorem recompose_budget (s : State) : (s.recompose).budget = s.budget := by
  rfl
@[simp] theorem recompose_pending (s : State) : (s.recompose).pending = s.pending := by
  rfl
@[simp] theorem recompose_offered (s : State) : (s.recompose).offered = s.offered := by
  rfl

/-! ### recomposeSince -/

@[simp] theorem recomposeSince_hold (s before : State) : (s.recomposeSince before).hold = s.hold := by
  unfold State.recomposeSince; (repeat' split) <;> simp
@[simp] theorem recomposeSince_stc (s before : State) : (s.recomposeSince before).stc = s.stc := by
  unfold State.recomposeSince; (repeat' split) <;> simp
@[simp] theorem recomposeSince_common (s before : State) : (s.recomposeSince before).common = s.common := by
  unfold State.recomposeSince; (repeat' split) <;> simp
@[simp] theorem recomposeSince_sched (s before : State) : (s.recomposeSince before).sched = s.sched := by
  unfold State.recomposeSince; (repeat' split) <;> simp
@[simp] theorem recomposeSince_clock (s before : State) : (s.recomposeSince before).clock = s.clock := by
  unfold State.recomposeSince; (repeat' split) <;> simp
@[simp] theorem recomposeSince_flash (s before : State) : (s.recomposeSince before).flash = s.flash := by
  unfold State.recomposeSince; (repeat' split) <;> simp
@[simp] theorem recomposeSince_intrinsics (s before : State) : (s.recomposeSince before).intrinsics = s.intrinsics := by
  unfold State.recomposeSince; (repeat' split) <;> simp
@[simp] theorem recomposeSince_lif (s before : State) : (s.recomposeSince before).lif = s.lif := by
  unfold State.recomposeSince; (repeat' split) <;> simp
@[simp] theorem recomposeSince_txq (s before : State) : (s.recomposeSince before).txq = s.txq := by
  unfold State.recomposeSince; (repeat' split) <;> simp
@[simp] theorem recomposeSince_peers (s before : State) : (s.recomposeSince before).peers = s.peers := by
  unfold State.recomposeSince; (repeat' split) <;> simp
@[simp] theorem recomposeSince_expected (s before : State) : (s.recomposeSince before).expected = s.expected := by
  unfold State.recomposeSince; (repeat' split) <;> simp
@[simp] theorem recomposeSince_itm (s before : State) : (s.recomposeSince before).itm = s.itm := by
  unfold State.recomposeSince; (repeat' split) <;> simp
@[simp] theorem recomposeSince_origins (s before : State) : (s.recomposeSince before).origins = s.origins := by
  unfold State.recomposeSince; (repeat' split) <;> simp
@[simp] theorem recomposeSince_view (s before : State) : (s.recomposeSince before).view = s.view := by
  unfold State.recomposeSince; (repeat' split) <;> simp
@[simp] theorem recomposeSince_maps (s before : State) : (s.recomposeSince before).maps = s.maps := by
  unfold State.recomposeSince; (repeat' split) <;> simp
@[simp] theorem recomposeSince_cache (s before : State) : (s.recomposeSince before).cache = s.cache := by
  unfold State.recomposeSince; (repeat' split) <;> simp
@[simp] theorem recomposeSince_alertSeen (s before : State) : (s.recomposeSince before).alertSeen = s.alertSeen := by
  unfold State.recomposeSince; (repeat' split) <;> simp
@[simp] theorem recomposeSince_budget (s before : State) : (s.recomposeSince before).budget = s.budget := by
  unfold State.recomposeSince; (repeat' split) <;> simp
@[simp] theorem recomposeSince_pending (s before : State) : (s.recomposeSince before).pending = s.pending := by
  unfold State.recomposeSince; (repeat' split) <;> simp
@[simp] theorem recomposeSince_offered (s before : State) : (s.recomposeSince before).offered = s.offered := by
  unfold State.recomposeSince; (repeat' split) <;> simp

/-! ### requestSince -/

@[simp] theorem requestSince_hold (s before : State) : (s.requestSince before).hold = s.hold := by
  unfold State.requestSince; (repeat' split) <;> simp
@[simp] theorem requestSince_stc (s before : State) : (s.requestSince before).stc = s.stc := by
  unfold State.requestSince; (repeat' split) <;> simp
@[simp] theorem requestSince_common (s before : State) : (s.requestSince before).common = s.common := by
  unfold State.requestSince; (repeat' split) <;> simp
@[simp] theorem requestSince_clock (s before : State) : (s.requestSince before).clock = s.clock := by
  unfold State.requestSince; (repeat' split) <;> simp
@[simp] theorem requestSince_flash (s before : State) : (s.requestSince before).flash = s.flash := by
  unfold State.requestSince; (repeat' split) <;> simp
@[simp] theorem requestSince_intrinsics (s before : State) : (s.requestSince before).intrinsics = s.intrinsics := by
  unfold State.requestSince; (repeat' split) <;> simp
@[simp] theorem requestSince_lif (s before : State) : (s.requestSince before).lif = s.lif := by
  unfold State.requestSince; (repeat' split) <;> simp
@[simp] theorem requestSince_txq (s before : State) : (s.requestSince before).txq = s.txq := by
  unfold State.requestSince; (repeat' split) <;> simp
@[simp] theorem requestSince_peers (s before : State) : (s.requestSince before).peers = s.peers := by
  unfold State.requestSince; (repeat' split) <;> simp
@[simp] theorem requestSince_expected (s before : State) : (s.requestSince before).expected = s.expected := by
  unfold State.requestSince; (repeat' split) <;> simp
@[simp] theorem requestSince_itm (s before : State) : (s.requestSince before).itm = s.itm := by
  unfold State.requestSince; (repeat' split) <;> simp
@[simp] theorem requestSince_origins (s before : State) : (s.requestSince before).origins = s.origins := by
  unfold State.requestSince; (repeat' split) <;> simp
@[simp] theorem requestSince_view (s before : State) : (s.requestSince before).view = s.view := by
  unfold State.requestSince; (repeat' split) <;> simp
@[simp] theorem requestSince_maps (s before : State) : (s.requestSince before).maps = s.maps := by
  unfold State.requestSince; (repeat' split) <;> simp
@[simp] theorem requestSince_chans (s before : State) : (s.requestSince before).chans = s.chans := by
  unfold State.requestSince; (repeat' split) <;> simp
@[simp] theorem requestSince_cache (s before : State) : (s.requestSince before).cache = s.cache := by
  unfold State.requestSince; (repeat' split) <;> simp
@[simp] theorem requestSince_alertSeen (s before : State) : (s.requestSince before).alertSeen = s.alertSeen := by
  unfold State.requestSince; (repeat' split) <;> simp
@[simp] theorem requestSince_budget (s before : State) : (s.requestSince before).budget = s.budget := by
  unfold State.requestSince; (repeat' split) <;> simp
@[simp] theorem requestSince_pending (s before : State) : (s.requestSince before).pending = s.pending := by
  unfold State.requestSince; (repeat' split) <;> simp
@[simp] theorem requestSince_offered (s before : State) : (s.requestSince before).offered = s.offered := by
  unfold State.requestSince; (repeat' split) <;> simp

/-! ### formChannels -/

@[simp] theorem formChannels_hold (s : State) (g : Bool) : (s.formChannels g).hold = s.hold := by
  rfl
@[simp] theorem formChannels_stc (s : State) (g : Bool) : (s.formChannels g).stc = s.stc := by
  rfl
@[simp] theorem formChannels_common (s : State) (g : Bool) : (s.formChannels g).common = s.common := by
  rfl
@[simp] theorem formChannels_sched (s : State) (g : Bool) : (s.formChannels g).sched = s.sched := by
  rfl
@[simp] theorem formChannels_flash (s : State) (g : Bool) : (s.formChannels g).flash = s.flash := by
  rfl
@[simp] theorem formChannels_intrinsics (s : State) (g : Bool) : (s.formChannels g).intrinsics = s.intrinsics := by
  rfl
@[simp] theorem formChannels_lif (s : State) (g : Bool) : (s.formChannels g).lif = s.lif := by
  rfl
@[simp] theorem formChannels_txq (s : State) (g : Bool) : (s.formChannels g).txq = s.txq := by
  rfl
@[simp] theorem formChannels_peers (s : State) (g : Bool) : (s.formChannels g).peers = s.peers := by
  rfl
@[simp] theorem formChannels_expected (s : State) (g : Bool) : (s.formChannels g).expected = s.expected := by
  rfl
@[simp] theorem formChannels_itm (s : State) (g : Bool) : (s.formChannels g).itm = s.itm := by
  rfl
@[simp] theorem formChannels_origins (s : State) (g : Bool) : (s.formChannels g).origins = s.origins := by
  rfl
@[simp] theorem formChannels_view (s : State) (g : Bool) : (s.formChannels g).view = s.view := by
  rfl
@[simp] theorem formChannels_maps (s : State) (g : Bool) : (s.formChannels g).maps = s.maps := by
  rfl
@[simp] theorem formChannels_cache (s : State) (g : Bool) : (s.formChannels g).cache = s.cache := by
  rfl
@[simp] theorem formChannels_alertSeen (s : State) (g : Bool) : (s.formChannels g).alertSeen = s.alertSeen := by
  rfl
@[simp] theorem formChannels_budget (s : State) (g : Bool) : (s.formChannels g).budget = s.budget := by
  rfl
@[simp] theorem formChannels_pending (s : State) (g : Bool) : (s.formChannels g).pending = s.pending := by
  rfl
@[simp] theorem formChannels_offered (s : State) (g : Bool) : (s.formChannels g).offered = s.offered := by
  rfl
@[simp] theorem formChannels_b (s : State) (g : Bool) : (s.formChannels g).clock.b = s.clock.b := by
  rfl
@[simp] theorem formChannels_position (s : State) (g : Bool) : (s.formChannels g).clock.position = s.clock.position := by
  rfl
@[simp] theorem formChannels_atBoundary (s : State) (g : Bool) : (s.formChannels g).clock.atBoundary = s.clock.atBoundary := by
  rfl
@[simp] theorem formChannels_instant (s : State) (g : Bool) : (s.formChannels g).clock.instant = s.clock.instant := by
  rfl
@[simp] theorem formChannels_left (s : State) (g : Bool) : (s.formChannels g).clock.left = s.clock.left := by
  rfl
@[simp] theorem formChannels_validityLeft (s : State) (g : Bool) : (s.formChannels g).clock.validityLeft = s.clock.validityLeft := by
  rfl
@[simp] theorem formChannels_settledLeft (s : State) (g : Bool) : (s.formChannels g).clock.settledLeft = s.clock.settledLeft := by
  rfl
@[simp] theorem formChannels_sampled (s : State) (g : Bool) : (s.formChannels g).clock.sampled = s.clock.sampled := by
  rfl
@[simp] theorem formChannels_firstBeat (s : State) (g : Bool) : (s.formChannels g).clock.firstBeat = s.clock.firstBeat := by
  rfl
@[simp] theorem formChannels_sinceSwitch (s : State) (g : Bool) : (s.formChannels g).clock.sinceSwitch = s.clock.sinceSwitch := by
  rfl
@[simp] theorem formChannels_sincePeriod (s : State) (g : Bool) : (s.formChannels g).clock.sincePeriod = s.clock.sincePeriod := by
  rfl

/-! ### formAfterLevels -/

@[simp] theorem formAfterLevels_hold (s before : State) : (s.formAfterLevels before).hold = s.hold := by
  unfold State.formAfterLevels; (repeat' split) <;> simp
@[simp] theorem formAfterLevels_stc (s before : State) : (s.formAfterLevels before).stc = s.stc := by
  unfold State.formAfterLevels; (repeat' split) <;> simp
@[simp] theorem formAfterLevels_common (s before : State) : (s.formAfterLevels before).common = s.common := by
  unfold State.formAfterLevels; (repeat' split) <;> simp
@[simp] theorem formAfterLevels_sched (s before : State) : (s.formAfterLevels before).sched = s.sched := by
  unfold State.formAfterLevels; (repeat' split) <;> simp
@[simp] theorem formAfterLevels_flash (s before : State) : (s.formAfterLevels before).flash = s.flash := by
  unfold State.formAfterLevels; (repeat' split) <;> simp
@[simp] theorem formAfterLevels_intrinsics (s before : State) : (s.formAfterLevels before).intrinsics = s.intrinsics := by
  unfold State.formAfterLevels; (repeat' split) <;> simp
@[simp] theorem formAfterLevels_lif (s before : State) : (s.formAfterLevels before).lif = s.lif := by
  unfold State.formAfterLevels; (repeat' split) <;> simp
@[simp] theorem formAfterLevels_txq (s before : State) : (s.formAfterLevels before).txq = s.txq := by
  unfold State.formAfterLevels; (repeat' split) <;> simp
@[simp] theorem formAfterLevels_peers (s before : State) : (s.formAfterLevels before).peers = s.peers := by
  unfold State.formAfterLevels; (repeat' split) <;> simp
@[simp] theorem formAfterLevels_expected (s before : State) : (s.formAfterLevels before).expected = s.expected := by
  unfold State.formAfterLevels; (repeat' split) <;> simp
@[simp] theorem formAfterLevels_itm (s before : State) : (s.formAfterLevels before).itm = s.itm := by
  unfold State.formAfterLevels; (repeat' split) <;> simp
@[simp] theorem formAfterLevels_origins (s before : State) : (s.formAfterLevels before).origins = s.origins := by
  unfold State.formAfterLevels; (repeat' split) <;> simp
@[simp] theorem formAfterLevels_view (s before : State) : (s.formAfterLevels before).view = s.view := by
  unfold State.formAfterLevels; (repeat' split) <;> simp
@[simp] theorem formAfterLevels_maps (s before : State) : (s.formAfterLevels before).maps = s.maps := by
  unfold State.formAfterLevels; (repeat' split) <;> simp
@[simp] theorem formAfterLevels_cache (s before : State) : (s.formAfterLevels before).cache = s.cache := by
  unfold State.formAfterLevels; (repeat' split) <;> simp
@[simp] theorem formAfterLevels_alertSeen (s before : State) : (s.formAfterLevels before).alertSeen = s.alertSeen := by
  unfold State.formAfterLevels; (repeat' split) <;> simp
@[simp] theorem formAfterLevels_budget (s before : State) : (s.formAfterLevels before).budget = s.budget := by
  unfold State.formAfterLevels; (repeat' split) <;> simp
@[simp] theorem formAfterLevels_pending (s before : State) : (s.formAfterLevels before).pending = s.pending := by
  unfold State.formAfterLevels; (repeat' split) <;> simp
@[simp] theorem formAfterLevels_offered (s before : State) : (s.formAfterLevels before).offered = s.offered := by
  unfold State.formAfterLevels; (repeat' split) <;> simp
@[simp] theorem formAfterLevels_b (s before : State) : (s.formAfterLevels before).clock.b = s.clock.b := by
  unfold State.formAfterLevels; (repeat' split) <;> simp
@[simp] theorem formAfterLevels_position (s before : State) : (s.formAfterLevels before).clock.position = s.clock.position := by
  unfold State.formAfterLevels; (repeat' split) <;> simp
@[simp] theorem formAfterLevels_atBoundary (s before : State) : (s.formAfterLevels before).clock.atBoundary = s.clock.atBoundary := by
  unfold State.formAfterLevels; (repeat' split) <;> simp
@[simp] theorem formAfterLevels_instant (s before : State) : (s.formAfterLevels before).clock.instant = s.clock.instant := by
  unfold State.formAfterLevels; (repeat' split) <;> simp
@[simp] theorem formAfterLevels_left (s before : State) : (s.formAfterLevels before).clock.left = s.clock.left := by
  unfold State.formAfterLevels; (repeat' split) <;> simp
@[simp] theorem formAfterLevels_validityLeft (s before : State) : (s.formAfterLevels before).clock.validityLeft = s.clock.validityLeft := by
  unfold State.formAfterLevels; (repeat' split) <;> simp
@[simp] theorem formAfterLevels_settledLeft (s before : State) : (s.formAfterLevels before).clock.settledLeft = s.clock.settledLeft := by
  unfold State.formAfterLevels; (repeat' split) <;> simp
@[simp] theorem formAfterLevels_sampled (s before : State) : (s.formAfterLevels before).clock.sampled = s.clock.sampled := by
  unfold State.formAfterLevels; (repeat' split) <;> simp
@[simp] theorem formAfterLevels_firstBeat (s before : State) : (s.formAfterLevels before).clock.firstBeat = s.clock.firstBeat := by
  unfold State.formAfterLevels; (repeat' split) <;> simp
@[simp] theorem formAfterLevels_sinceSwitch (s before : State) : (s.formAfterLevels before).clock.sinceSwitch = s.clock.sinceSwitch := by
  unfold State.formAfterLevels; (repeat' split) <;> simp
@[simp] theorem formAfterLevels_sincePeriod (s before : State) : (s.formAfterLevels before).clock.sincePeriod = s.clock.sincePeriod := by
  unfold State.formAfterLevels; (repeat' split) <;> simp

/-! ### finish -/

@[simp] theorem finish_common (s before : State) : (s.finish before).common = s.common := by
  simp only [State.finish]; split <;> simp
@[simp] theorem finish_flash (s before : State) : (s.finish before).flash = s.flash := by
  simp only [State.finish]; split <;> simp
@[simp] theorem finish_intrinsics (s before : State) : (s.finish before).intrinsics = s.intrinsics := by
  simp only [State.finish]; split <;> simp
@[simp] theorem finish_peers (s before : State) : (s.finish before).peers = s.peers := by
  simp only [State.finish]; split <;> simp
@[simp] theorem finish_expected (s before : State) : (s.finish before).expected = s.expected := by
  simp only [State.finish]; split <;> simp
@[simp] theorem finish_itm (s before : State) : (s.finish before).itm = s.itm := by
  simp only [State.finish]; split <;> simp
@[simp] theorem finish_origins (s before : State) : (s.finish before).origins = s.origins := by
  simp only [State.finish]; split <;> simp
@[simp] theorem finish_view (s before : State) : (s.finish before).view = s.view := by
  simp only [State.finish]; split <;> simp
@[simp] theorem finish_maps (s before : State) : (s.finish before).maps = s.maps := by
  simp only [State.finish]; split <;> simp
@[simp] theorem finish_cache (s before : State) : (s.finish before).cache = s.cache := by
  simp only [State.finish]; split <;> simp
@[simp] theorem finish_alertSeen (s before : State) : (s.finish before).alertSeen = s.alertSeen := by
  simp only [State.finish]; split <;> simp
@[simp] theorem finish_budget (s before : State) : (s.finish before).budget = s.budget := by
  simp only [State.finish]; split <;> simp
@[simp] theorem finish_pending (s before : State) : (s.finish before).pending = s.pending := by
  simp only [State.finish]; split <;> simp
@[simp] theorem finish_own (s before : State) : (s.finish before).stc.own = s.stc.own := by
  simp only [State.finish]; split <;> simp
@[simp] theorem finish_state (s before : State) : (s.finish before).stc.state = s.stc.state := by
  simp only [State.finish]; split <;> simp
@[simp] theorem finish_capture (s before : State) : (s.finish before).lif.capture = s.lif.capture := by
  simp only [State.finish]; split <;> simp
@[simp] theorem finish_listenOnly (s before : State) : (s.finish before).lif.listenOnly = s.lif.listenOnly := by
  simp only [State.finish]; split <;> simp
@[simp] theorem finish_seq (s before : State) : (s.finish before).txq.seq = s.txq.seq := by
  simp only [State.finish]; split <;> simp
@[simp] theorem finish_b (s before : State) : (s.finish before).clock.b = s.clock.b := by
  simp only [State.finish]; split <;> simp
@[simp] theorem finish_position (s before : State) : (s.finish before).clock.position = s.clock.position := by
  simp only [State.finish]; split <;> simp
@[simp] theorem finish_atBoundary (s before : State) : (s.finish before).clock.atBoundary = s.clock.atBoundary := by
  simp only [State.finish]; split <;> simp
@[simp] theorem finish_instant (s before : State) : (s.finish before).clock.instant = s.clock.instant := by
  simp only [State.finish]; split <;> simp
@[simp] theorem finish_left (s before : State) : (s.finish before).clock.left = s.clock.left := by
  simp only [State.finish]; split <;> simp
@[simp] theorem finish_validityLeft (s before : State) : (s.finish before).clock.validityLeft = s.clock.validityLeft := by
  simp only [State.finish]; split <;> simp
@[simp] theorem finish_settledLeft (s before : State) : (s.finish before).clock.settledLeft = s.clock.settledLeft := by
  simp only [State.finish]; split <;> simp
@[simp] theorem finish_sampled (s before : State) : (s.finish before).clock.sampled = s.clock.sampled := by
  simp only [State.finish]; split <;> simp
@[simp] theorem finish_firstBeat (s before : State) : (s.finish before).clock.firstBeat = s.clock.firstBeat := by
  simp only [State.finish]; split <;> simp
@[simp] theorem finish_sinceSwitch (s before : State) : (s.finish before).clock.sinceSwitch = s.clock.sinceSwitch := by
  simp only [State.finish]; split <;> simp
@[simp] theorem finish_sincePeriod (s before : State) : (s.finish before).clock.sincePeriod = s.clock.sincePeriod := by
  simp only [State.finish]; split <;> simp

/-- Where nothing of the early figures, L_e and PARKED changed, no channel waits for the boundary, and no STATUS is due or made
at the instant, it ends as it stands (R52, R154). -/
theorem finish_quiet {s before : State} (hf : s.clock.formDue = false) (hle : s.budget.le = before.budget.le)
    (hp : s.stc.state = .parked ↔ before.stc.state = .parked) (he : s.earlyFigures = before.earlyFigures)
    (hd : s.sched.due = false) (hr : s.sched.early = false) (hm : s.offered.statusMade = false) :
    s.finish before = s := by
  have h0 : s.formAfterLevels before = s := by simp [State.formAfterLevels, hf]
  have h1 : s.recomposeSince before = s := by unfold State.recomposeSince; exact if_pos ⟨hle, hp⟩
  have h2 : s.requestSince before = s := by unfold State.requestSince; exact if_pos (.inr (.inr (.inr he)))
  simp [State.finish, h0, h1, h2, State.statusNow, hd, hr, renewStatus_eq_self hm]

/-- Where L_e and PARKED stay and no channel waits for the boundary, the end of an instant leaves the channels. -/
theorem finish_chans {s before : State} (hf : s.clock.formDue = false) (hle : s.budget.le = before.budget.le)
    (hp : s.stc.state = .parked ↔ before.stc.state = .parked) : (s.finish before).chans = s.chans := by
  have h0 : s.formAfterLevels before = s := by simp [State.formAfterLevels, hf]
  have h1 : s.recomposeSince before = s := by unfold State.recomposeSince; exact if_pos ⟨hle, hp⟩
  simp only [State.finish, h0, h1]
  split <;> simp


/-! ## Presence and reference -/


/-! ### formReference -/

@[simp] theorem formReference_hold (s : State) : (s.formReference).hold = s.hold := by
  unfold State.formReference; (repeat' split) <;> simp
@[simp] theorem formReference_stc (s : State) : (s.formReference).stc = s.stc := by
  unfold State.formReference; (repeat' split) <;> simp
@[simp] theorem formReference_common (s : State) : (s.formReference).common = s.common := by
  unfold State.formReference; (repeat' split) <;> simp
@[simp] theorem formReference_sched (s : State) : (s.formReference).sched = s.sched := by
  unfold State.formReference; (repeat' split) <;> simp
@[simp] theorem formReference_clock (s : State) : (s.formReference).clock = s.clock := by
  unfold State.formReference; (repeat' split) <;> simp
@[simp] theorem formReference_intrinsics (s : State) : (s.formReference).intrinsics = s.intrinsics := by
  unfold State.formReference; (repeat' split) <;> simp
@[simp] theorem formReference_lif (s : State) : (s.formReference).lif = s.lif := by
  unfold State.formReference; (repeat' split) <;> simp
@[simp] theorem formReference_txq (s : State) : (s.formReference).txq = s.txq := by
  unfold State.formReference; (repeat' split) <;> simp
@[simp] theorem formReference_peers (s : State) : (s.formReference).peers = s.peers := by
  unfold State.formReference; (repeat' split) <;> simp
@[simp] theorem formReference_expected (s : State) : (s.formReference).expected = s.expected := by
  unfold State.formReference; (repeat' split) <;> simp
@[simp] theorem formReference_itm (s : State) : (s.formReference).itm = s.itm := by
  unfold State.formReference; (repeat' split) <;> simp
@[simp] theorem formReference_origins (s : State) : (s.formReference).origins = s.origins := by
  unfold State.formReference; (repeat' split) <;> simp
@[simp] theorem formReference_view (s : State) : (s.formReference).view = s.view := by
  unfold State.formReference; (repeat' split) <;> simp
@[simp] theorem formReference_maps (s : State) : (s.formReference).maps = s.maps := by
  unfold State.formReference; (repeat' split) <;> simp
@[simp] theorem formReference_chans (s : State) : (s.formReference).chans = s.chans := by
  unfold State.formReference; (repeat' split) <;> simp
@[simp] theorem formReference_cache (s : State) : (s.formReference).cache = s.cache := by
  unfold State.formReference; (repeat' split) <;> simp
@[simp] theorem formReference_alertSeen (s : State) : (s.formReference).alertSeen = s.alertSeen := by
  unfold State.formReference; (repeat' split) <;> simp
@[simp] theorem formReference_budget (s : State) : (s.formReference).budget = s.budget := by
  unfold State.formReference; (repeat' split) <;> simp
@[simp] theorem formReference_pending (s : State) : (s.formReference).pending = s.pending := by
  unfold State.formReference; (repeat' split) <;> simp
@[simp] theorem formReference_offered (s : State) : (s.formReference).offered = s.offered := by
  unfold State.formReference; (repeat' split) <;> simp
@[simp] theorem formReference_left (s : State) : s.formReference.flash.left = s.flash.left := by
  unfold State.formReference; (repeat' split) <;> simp
@[simp] theorem formReference_right (s : State) : s.formReference.flash.right = s.flash.right := by
  unfold State.formReference; (repeat' split) <;> simp

/-! ### formLe -/

@[simp] theorem formLe_hold (s : State) : (s.formLe).hold = s.hold := by
  unfold State.formLe; (repeat' split) <;> simp
@[simp] theorem formLe_stc (s : State) : (s.formLe).stc = s.stc := by
  unfold State.formLe; (repeat' split) <;> simp
@[simp] theorem formLe_common (s : State) : (s.formLe).common = s.common := by
  unfold State.formLe; (repeat' split) <;> simp
@[simp] theorem formLe_sched (s : State) : (s.formLe).sched = s.sched := by
  unfold State.formLe; (repeat' split) <;> simp
@[simp] theorem formLe_clock (s : State) : (s.formLe).clock = s.clock := by
  unfold State.formLe; (repeat' split) <;> simp
@[simp] theorem formLe_flash (s : State) : (s.formLe).flash = s.flash := by
  unfold State.formLe; (repeat' split) <;> simp
@[simp] theorem formLe_intrinsics (s : State) : (s.formLe).intrinsics = s.intrinsics := by
  unfold State.formLe; (repeat' split) <;> simp
@[simp] theorem formLe_lif (s : State) : (s.formLe).lif = s.lif := by
  unfold State.formLe; (repeat' split) <;> simp
@[simp] theorem formLe_txq (s : State) : (s.formLe).txq = s.txq := by
  unfold State.formLe; (repeat' split) <;> simp
@[simp] theorem formLe_peers (s : State) : (s.formLe).peers = s.peers := by
  unfold State.formLe; (repeat' split) <;> simp
@[simp] theorem formLe_expected (s : State) : (s.formLe).expected = s.expected := by
  unfold State.formLe; (repeat' split) <;> simp
@[simp] theorem formLe_itm (s : State) : (s.formLe).itm = s.itm := by
  unfold State.formLe; (repeat' split) <;> simp
@[simp] theorem formLe_origins (s : State) : (s.formLe).origins = s.origins := by
  unfold State.formLe; (repeat' split) <;> simp
@[simp] theorem formLe_view (s : State) : (s.formLe).view = s.view := by
  unfold State.formLe; (repeat' split) <;> simp
@[simp] theorem formLe_maps (s : State) : (s.formLe).maps = s.maps := by
  unfold State.formLe; (repeat' split) <;> simp
@[simp] theorem formLe_chans (s : State) : (s.formLe).chans = s.chans := by
  unfold State.formLe; (repeat' split) <;> simp
@[simp] theorem formLe_cache (s : State) : (s.formLe).cache = s.cache := by
  unfold State.formLe; (repeat' split) <;> simp
@[simp] theorem formLe_alertSeen (s : State) : (s.formLe).alertSeen = s.alertSeen := by
  unfold State.formLe; (repeat' split) <;> simp
@[simp] theorem formLe_pending (s : State) : (s.formLe).pending = s.pending := by
  unfold State.formLe; (repeat' split) <;> simp
@[simp] theorem formLe_offered (s : State) : (s.formLe).offered = s.offered := by
  unfold State.formLe; (repeat' split) <;> simp
@[simp] theorem formLe_d0 (s : State) : s.formLe.budget.d0 = s.budget.d0 := by
  unfold State.formLe; (repeat' split) <;> simp
@[simp] theorem formLe_d1 (s : State) : s.formLe.budget.d1 = s.budget.d1 := by
  unfold State.formLe; (repeat' split) <;> simp
@[simp] theorem formLe_d2 (s : State) : s.formLe.budget.d2 = s.budget.d2 := by
  unfold State.formLe; (repeat' split) <;> simp
@[simp] theorem formLe_d3 (s : State) : s.formLe.budget.d3 = s.budget.d3 := by
  unfold State.formLe; (repeat' split) <;> simp
@[simp] theorem formLe_charging (s : State) : s.formLe.budget.charging = s.budget.charging := by
  unfold State.formLe; (repeat' split) <;> simp
@[simp] theorem formLe_overBudget (s : State) : s.formLe.budget.overBudget = s.budget.overBudget := by
  unfold State.formLe; (repeat' split) <;> simp
@[simp] theorem formLe_lc (s : State) : s.formLe.budget.lc = s.budget.lc := by
  unfold State.formLe; (repeat' split) <;> simp
@[simp] theorem formLe_lowering (s : State) : s.formLe.budget.lowering = s.budget.lowering := by
  unfold State.formLe; (repeat' split) <;> simp

/-! ### presenceChanged -/

@[simp] theorem presenceChanged_hold (s : State) : (s.presenceChanged).hold = s.hold := by
  simp [State.presenceChanged]
@[simp] theorem presenceChanged_stc (s : State) : (s.presenceChanged).stc = s.stc := by
  simp [State.presenceChanged]
@[simp] theorem presenceChanged_common (s : State) : (s.presenceChanged).common = s.common := by
  simp [State.presenceChanged]
@[simp] theorem presenceChanged_sched (s : State) : (s.presenceChanged).sched = s.sched := by
  simp [State.presenceChanged]
@[simp] theorem presenceChanged_clock (s : State) : (s.presenceChanged).clock = s.clock := by
  simp [State.presenceChanged]
@[simp] theorem presenceChanged_intrinsics (s : State) : (s.presenceChanged).intrinsics = s.intrinsics := by
  simp [State.presenceChanged]
@[simp] theorem presenceChanged_lif (s : State) : (s.presenceChanged).lif = s.lif := by
  simp [State.presenceChanged]
@[simp] theorem presenceChanged_txq (s : State) : (s.presenceChanged).txq = s.txq := by
  simp [State.presenceChanged]
@[simp] theorem presenceChanged_peers (s : State) : (s.presenceChanged).peers = s.peers := by
  simp [State.presenceChanged]
@[simp] theorem presenceChanged_expected (s : State) : (s.presenceChanged).expected = s.expected := by
  simp [State.presenceChanged]
@[simp] theorem presenceChanged_itm (s : State) : (s.presenceChanged).itm = s.itm := by
  simp [State.presenceChanged]
@[simp] theorem presenceChanged_origins (s : State) : (s.presenceChanged).origins = s.origins := by
  simp [State.presenceChanged]
@[simp] theorem presenceChanged_view (s : State) : (s.presenceChanged).view = s.view := by
  simp [State.presenceChanged]
@[simp] theorem presenceChanged_maps (s : State) : (s.presenceChanged).maps = s.maps := by
  simp [State.presenceChanged]
@[simp] theorem presenceChanged_chans (s : State) : (s.presenceChanged).chans = s.chans := by
  simp [State.presenceChanged]
@[simp] theorem presenceChanged_cache (s : State) : (s.presenceChanged).cache = s.cache := by
  simp [State.presenceChanged]
@[simp] theorem presenceChanged_alertSeen (s : State) : (s.presenceChanged).alertSeen = s.alertSeen := by
  simp [State.presenceChanged]
@[simp] theorem presenceChanged_pending (s : State) : (s.presenceChanged).pending = s.pending := by
  simp [State.presenceChanged]
@[simp] theorem presenceChanged_offered (s : State) : (s.presenceChanged).offered = s.offered := by
  simp [State.presenceChanged]
@[simp] theorem presenceChanged_left (s : State) : s.presenceChanged.flash.left = s.flash.left := by
  simp [State.presenceChanged]
@[simp] theorem presenceChanged_right (s : State) : s.presenceChanged.flash.right = s.flash.right := by
  simp [State.presenceChanged]
@[simp] theorem presenceChanged_d0 (s : State) : s.presenceChanged.budget.d0 = s.budget.d0 := by
  simp [State.presenceChanged]
@[simp] theorem presenceChanged_d1 (s : State) : s.presenceChanged.budget.d1 = s.budget.d1 := by
  simp [State.presenceChanged]
@[simp] theorem presenceChanged_d2 (s : State) : s.presenceChanged.budget.d2 = s.budget.d2 := by
  simp [State.presenceChanged]
@[simp] theorem presenceChanged_d3 (s : State) : s.presenceChanged.budget.d3 = s.budget.d3 := by
  simp [State.presenceChanged]
@[simp] theorem presenceChanged_charging (s : State) : s.presenceChanged.budget.charging = s.budget.charging := by
  simp [State.presenceChanged]
@[simp] theorem presenceChanged_overBudget (s : State) : s.presenceChanged.budget.overBudget = s.budget.overBudget := by
  simp [State.presenceChanged]
@[simp] theorem presenceChanged_lc (s : State) : s.presenceChanged.budget.lc = s.budget.lc := by
  simp [State.presenceChanged]
@[simp] theorem presenceChanged_lowering (s : State) : s.presenceChanged.budget.lowering = s.budget.lowering := by
  simp [State.presenceChanged]

/-! ### learn -/

@[simp] theorem learn_hold (s : State) (p : Station) : (s.learn p).hold = s.hold := by
  unfold State.learn; (repeat' split) <;> simp
@[simp] theorem learn_stc (s : State) (p : Station) : (s.learn p).stc = s.stc := by
  unfold State.learn; (repeat' split) <;> simp
@[simp] theorem learn_common (s : State) (p : Station) : (s.learn p).common = s.common := by
  unfold State.learn; (repeat' split) <;> simp
@[simp] theorem learn_sched (s : State) (p : Station) : (s.learn p).sched = s.sched := by
  unfold State.learn; (repeat' split) <;> simp
@[simp] theorem learn_clock (s : State) (p : Station) : (s.learn p).clock = s.clock := by
  unfold State.learn; (repeat' split) <;> simp
@[simp] theorem learn_flash (s : State) (p : Station) : (s.learn p).flash = s.flash := by
  unfold State.learn; (repeat' split) <;> simp
@[simp] theorem learn_intrinsics (s : State) (p : Station) : (s.learn p).intrinsics = s.intrinsics := by
  unfold State.learn; (repeat' split) <;> simp
@[simp] theorem learn_lif (s : State) (p : Station) : (s.learn p).lif = s.lif := by
  unfold State.learn; (repeat' split) <;> simp
@[simp] theorem learn_txq (s : State) (p : Station) : (s.learn p).txq = s.txq := by
  unfold State.learn; (repeat' split) <;> simp
@[simp] theorem learn_peers (s : State) (p : Station) : (s.learn p).peers = s.peers := by
  unfold State.learn; (repeat' split) <;> simp
@[simp] theorem learn_itm (s : State) (p : Station) : (s.learn p).itm = s.itm := by
  unfold State.learn; (repeat' split) <;> simp
@[simp] theorem learn_origins (s : State) (p : Station) : (s.learn p).origins = s.origins := by
  unfold State.learn; (repeat' split) <;> simp
@[simp] theorem learn_view (s : State) (p : Station) : (s.learn p).view = s.view := by
  unfold State.learn; (repeat' split) <;> simp
@[simp] theorem learn_maps (s : State) (p : Station) : (s.learn p).maps = s.maps := by
  unfold State.learn; (repeat' split) <;> simp
@[simp] theorem learn_chans (s : State) (p : Station) : (s.learn p).chans = s.chans := by
  unfold State.learn; (repeat' split) <;> simp
@[simp] theorem learn_cache (s : State) (p : Station) : (s.learn p).cache = s.cache := by
  unfold State.learn; (repeat' split) <;> simp
@[simp] theorem learn_alertSeen (s : State) (p : Station) : (s.learn p).alertSeen = s.alertSeen := by
  unfold State.learn; (repeat' split) <;> simp
@[simp] theorem learn_budget (s : State) (p : Station) : (s.learn p).budget = s.budget := by
  unfold State.learn; (repeat' split) <;> simp
@[simp] theorem learn_pending (s : State) (p : Station) : (s.learn p).pending = s.pending := by
  unfold State.learn; (repeat' split) <;> simp
@[simp] theorem learn_offered (s : State) (p : Station) : (s.learn p).offered = s.offered := by
  unfold State.learn; (repeat' split) <;> simp

/-! ### hearPeer -/

@[simp] theorem hearPeer_hold (s : State) (p : Station) (seq : BitVec 4) (x : Option StatusBody) : (s.hearPeer p seq x).hold = s.hold := by
  simp [State.hearPeer]
@[simp] theorem hearPeer_stc (s : State) (p : Station) (seq : BitVec 4) (x : Option StatusBody) : (s.hearPeer p seq x).stc = s.stc := by
  simp [State.hearPeer]
@[simp] theorem hearPeer_common (s : State) (p : Station) (seq : BitVec 4) (x : Option StatusBody) : (s.hearPeer p seq x).common = s.common := by
  simp [State.hearPeer]
@[simp] theorem hearPeer_sched (s : State) (p : Station) (seq : BitVec 4) (x : Option StatusBody) : (s.hearPeer p seq x).sched = s.sched := by
  simp [State.hearPeer]
@[simp] theorem hearPeer_clock (s : State) (p : Station) (seq : BitVec 4) (x : Option StatusBody) : (s.hearPeer p seq x).clock = s.clock := by
  simp [State.hearPeer]
@[simp] theorem hearPeer_intrinsics (s : State) (p : Station) (seq : BitVec 4) (x : Option StatusBody) : (s.hearPeer p seq x).intrinsics = s.intrinsics := by
  simp [State.hearPeer]
@[simp] theorem hearPeer_lif (s : State) (p : Station) (seq : BitVec 4) (x : Option StatusBody) : (s.hearPeer p seq x).lif = s.lif := by
  simp [State.hearPeer]
@[simp] theorem hearPeer_txq (s : State) (p : Station) (seq : BitVec 4) (x : Option StatusBody) : (s.hearPeer p seq x).txq = s.txq := by
  simp [State.hearPeer]
@[simp] theorem hearPeer_itm (s : State) (p : Station) (seq : BitVec 4) (x : Option StatusBody) : (s.hearPeer p seq x).itm = s.itm := by
  simp [State.hearPeer]
@[simp] theorem hearPeer_origins (s : State) (p : Station) (seq : BitVec 4) (x : Option StatusBody) : (s.hearPeer p seq x).origins = s.origins := by
  simp [State.hearPeer]
@[simp] theorem hearPeer_view (s : State) (p : Station) (seq : BitVec 4) (x : Option StatusBody) : (s.hearPeer p seq x).view = s.view := by
  simp [State.hearPeer]
@[simp] theorem hearPeer_maps (s : State) (p : Station) (seq : BitVec 4) (x : Option StatusBody) : (s.hearPeer p seq x).maps = s.maps := by
  simp [State.hearPeer]
@[simp] theorem hearPeer_chans (s : State) (p : Station) (seq : BitVec 4) (x : Option StatusBody) : (s.hearPeer p seq x).chans = s.chans := by
  simp [State.hearPeer]
@[simp] theorem hearPeer_cache (s : State) (p : Station) (seq : BitVec 4) (x : Option StatusBody) : (s.hearPeer p seq x).cache = s.cache := by
  simp [State.hearPeer]
@[simp] theorem hearPeer_alertSeen (s : State) (p : Station) (seq : BitVec 4) (x : Option StatusBody) : (s.hearPeer p seq x).alertSeen = s.alertSeen := by
  simp [State.hearPeer]
@[simp] theorem hearPeer_pending (s : State) (p : Station) (seq : BitVec 4) (x : Option StatusBody) : (s.hearPeer p seq x).pending = s.pending := by
  simp [State.hearPeer]
@[simp] theorem hearPeer_offered (s : State) (p : Station) (seq : BitVec 4) (x : Option StatusBody) : (s.hearPeer p seq x).offered = s.offered := by
  simp [State.hearPeer]
@[simp] theorem hearPeer_peers (s : State) (p : Station) (seq : BitVec 4) (x : Option StatusBody) : (s.hearPeer p seq x).peers = tableModify p (Peer.hear seq.toNat x) s.peers := by
  simp [State.hearPeer]
@[simp] theorem hearPeer_left (s : State) (p : Station) (seq : BitVec 4) (x : Option StatusBody) : (s.hearPeer p seq x).flash.left = s.flash.left := by
  simp [State.hearPeer]
@[simp] theorem hearPeer_right (s : State) (p : Station) (seq : BitVec 4) (x : Option StatusBody) : (s.hearPeer p seq x).flash.right = s.flash.right := by
  simp [State.hearPeer]

/-! ## Trips, findings -/


/-! ### trip -/

@[simp] theorem trip_common (s : State) (n : ChannelNo) (cause : TripCause) : (s.trip n cause).common = s.common := by
  unfold State.trip; (repeat' split) <;> simp
@[simp] theorem trip_clock (s : State) (n : ChannelNo) (cause : TripCause) : (s.trip n cause).clock = s.clock := by
  unfold State.trip; (repeat' split) <;> simp
@[simp] theorem trip_flash (s : State) (n : ChannelNo) (cause : TripCause) : (s.trip n cause).flash = s.flash := by
  unfold State.trip; (repeat' split) <;> simp
@[simp] theorem trip_peers (s : State) (n : ChannelNo) (cause : TripCause) : (s.trip n cause).peers = s.peers := by
  unfold State.trip; (repeat' split) <;> simp
@[simp] theorem trip_expected (s : State) (n : ChannelNo) (cause : TripCause) : (s.trip n cause).expected = s.expected := by
  unfold State.trip; (repeat' split) <;> simp
@[simp] theorem trip_maps (s : State) (n : ChannelNo) (cause : TripCause) : (s.trip n cause).maps = s.maps := by
  unfold State.trip; (repeat' split) <;> simp
@[simp] theorem trip_cache (s : State) (n : ChannelNo) (cause : TripCause) : (s.trip n cause).cache = s.cache := by
  unfold State.trip; (repeat' split) <;> simp
@[simp] theorem trip_alertSeen (s : State) (n : ChannelNo) (cause : TripCause) : (s.trip n cause).alertSeen = s.alertSeen := by
  unfold State.trip; (repeat' split) <;> simp
@[simp] theorem trip_budget (s : State) (n : ChannelNo) (cause : TripCause) : (s.trip n cause).budget = s.budget := by
  unfold State.trip; (repeat' split) <;> simp
@[simp] theorem trip_pending (s : State) (n : ChannelNo) (cause : TripCause) : (s.trip n cause).pending = s.pending := by
  unfold State.trip; (repeat' split) <;> simp
@[simp] theorem trip_own (s : State) (n : ChannelNo) (cause : TripCause) : (s.trip n cause).stc.own = s.stc.own := by
  unfold State.trip; (repeat' split) <;> simp
@[simp] theorem trip_inputs (s : State) (n : ChannelNo) (cause : TripCause) : (s.trip n cause).itm.inputs = s.itm.inputs := by
  unfold State.trip; (repeat' split) <;> simp
@[simp] theorem trip_vs (s : State) (n : ChannelNo) (cause : TripCause) : (s.trip n cause).itm.vs = s.itm.vs := by
  unfold State.trip; (repeat' split) <;> simp
@[simp] theorem trip_originEntries (s : State) (n : ChannelNo) (cause : TripCause) : (s.trip n cause).origins.entries = s.origins.entries := by
  unfold State.trip; (repeat' split) <;> simp
@[simp] theorem trip_capture (s : State) (n : ChannelNo) (cause : TripCause) : (s.trip n cause).lif.capture = s.lif.capture := by
  unfold State.trip; (repeat' split) <;> simp
@[simp] theorem trip_listenOnly (s : State) (n : ChannelNo) (cause : TripCause) : (s.trip n cause).lif.listenOnly = s.lif.listenOnly := by
  unfold State.trip; (repeat' split) <;> simp
@[simp] theorem trip_seq (s : State) (n : ChannelNo) (cause : TripCause) : (s.trip n cause).txq.seq = s.txq.seq := by
  unfold State.trip; (repeat' split) <;> simp

/-! ## Time and the line -/


/-! ### advance -/

@[simp] theorem advance_hold (s : State) (dt : Nat) : (s.advance dt).hold = s.hold := by
  unfold State.advance; split <;> rfl
@[simp] theorem advance_common (s : State) (dt : Nat) : (s.advance dt).common = s.common := by
  unfold State.advance; split <;> rfl
@[simp] theorem advance_sched (s : State) (dt : Nat) : (s.advance dt).sched = s.sched := by
  unfold State.advance; split <;> rfl
@[simp] theorem advance_flash (s : State) (dt : Nat) : (s.advance dt).flash = s.flash := by
  unfold State.advance; split <;> rfl
@[simp] theorem advance_intrinsics (s : State) (dt : Nat) : (s.advance dt).intrinsics = s.intrinsics := by
  unfold State.advance; split <;> rfl
@[simp] theorem advance_txq (s : State) (dt : Nat) : (s.advance dt).txq = s.txq := by
  unfold State.advance; split <;> rfl
@[simp] theorem advance_peers (s : State) (dt : Nat) : (s.advance dt).peers = s.peers := by
  unfold State.advance; split <;> rfl
@[simp] theorem advance_expected (s : State) (dt : Nat) : (s.advance dt).expected = s.expected := by
  unfold State.advance; split <;> rfl
@[simp] theorem advance_itm (s : State) (dt : Nat) : (s.advance dt).itm = s.itm := by
  unfold State.advance; split <;> rfl
@[simp] theorem advance_origins (s : State) (dt : Nat) : (s.advance dt).origins = s.origins := by
  unfold State.advance; split <;> rfl
@[simp] theorem advance_view (s : State) (dt : Nat) : (s.advance dt).view = s.view := by
  unfold State.advance; split <;> rfl
@[simp] theorem advance_maps (s : State) (dt : Nat) : (s.advance dt).maps = s.maps := by
  unfold State.advance; split <;> rfl
@[simp] theorem advance_chans (s : State) (dt : Nat) : (s.advance dt).chans = s.chans := by
  unfold State.advance; split <;> rfl
@[simp] theorem advance_cache (s : State) (dt : Nat) : (s.advance dt).cache = s.cache := by
  unfold State.advance; split <;> rfl
@[simp] theorem advance_alertSeen (s : State) (dt : Nat) : (s.advance dt).alertSeen = s.alertSeen := by
  unfold State.advance; split <;> rfl
@[simp] theorem advance_budget (s : State) (dt : Nat) : (s.advance dt).budget = s.budget := by
  unfold State.advance; split <;> rfl
@[simp] theorem advance_pending (s : State) (dt : Nat) : (s.advance dt).pending = s.pending := by
  unfold State.advance; split <;> rfl
@[simp] theorem advance_state (s : State) (dt : Nat) : (s.advance dt).stc.state = s.stc.state := by
  unfold State.advance; (repeat' split) <;> rfl
@[simp] theorem advance_own (s : State) (dt : Nat) : (s.advance dt).stc.own = s.stc.own := by
  unfold State.advance; (repeat' split) <;> rfl
@[simp] theorem advance_b (s : State) (dt : Nat) : (s.advance dt).clock.b = s.clock.b := by
  unfold State.advance BeatClock.advance; (repeat' split) <;> rfl
@[simp] theorem advance_line (s : State) (dt : Nat) : (s.advance dt).lif.line = s.lif.line := by
  unfold State.advance LineInterface.advance; (repeat' split) <;> rfl
@[simp] theorem advance_counters (s : State) (dt : Nat) : (s.advance dt).lif.counters = s.lif.counters := by
  unfold State.advance LineInterface.advance; (repeat' split) <;> rfl
@[simp] theorem advance_listenOnly (s : State) (dt : Nat) : (s.advance dt).lif.listenOnly = s.lif.listenOnly := by
  unfold State.advance LineInterface.advance; (repeat' split) <;> rfl
@[simp] theorem advance_frame (s : State) (dt : Nat) : (s.advance dt).lif.frame = s.lif.frame := by
  unfold State.advance LineInterface.advance; (repeat' split) <;> rfl
@[simp] theorem advance_ownError (s : State) (dt : Nat) : (s.advance dt).lif.ownError = s.lif.ownError := by
  unfold State.advance LineInterface.advance; (repeat' split) <;> rfl
@[simp] theorem advance_held (s : State) (dt : Nat) : (s.advance dt).held = s.held := by
  simp [State.held]
@[simp] theorem advance_works (s : State) (dt : Nat) : (s.advance dt).works = s.works := by
  simp [State.works, State.held]
@[simp] theorem advance_timerRuns (s : State) (dt : Nat) : (s.advance dt).timerRuns = s.timerRuns := by
  simp [State.timerRuns, State.held]

/-- Where no time passes the offers of the instant stand. -/
@[simp] theorem advance_offered_zero (s : State) : (s.advance 0).offered = s.offered := by
  unfold State.advance InstantOffers.advance; split <;> simp

/-- In a state whose timer runs, time ends the offers of the instant. -/
theorem advance_offered {s : State} (h : s.timerRuns = true) {dt : Nat} (hd : dt ≠ 0) :
    (s.advance dt).offered = InstantOffers.none := by
  simp_all [State.timerRuns, State.advance, InstantOffers.advance]

/-- In a state whose timer runs, time keeps Station Control. -/
theorem advance_stc {s : State} (h : s.timerRuns = true) (dt : Nat) : (s.advance dt).stc = s.stc := by
  have hs : s.stc.state ≠ .start := by
    intro e; simp [State.timerRuns, e] at h
  unfold State.advance; split
  · rfl
  · simp_all

end Sys2Proof.Machine
end

