-- ==== Sys2Proof/Tests/Slice0.lean ====
section
/-! SUPPORT. Tests: a refused ill-formed command for each check of WellFormed.lean, worked figures of the manual, single
steps on a small station, and for each statement with hypotheses a state and operands that meet them. Expected results
are the manual's own figures or worked by hand from its rules. -/

set_option Elab.async false

namespace Sys2Proof.Tests

open Sys2Proof.Machine

/-! ## A small station -/

def com : CommonSection :=
  { coded := true, nominal := 6, polarity := .negative, aCharge := 220, aBattery := 120, margin := 10, chargeThreshold := 6600,
    sagThreshold := 5600, parkDelay := 500, expected := 0, sections := 0x02 }

def needle : GaugePart :=
  { station := 1, input := 0, law := .thermal, vZero := 4800, vFull := 1200, shift := 2,
    curve := [(400, 0), (1000, 400), (2000, 1000)] }

def load (k : ChannelKind) : ChannelProfile :=
  { kind := k, side := .left, nominal := 40, rated := 6000, shedClass := 2, action := .cap 100, parkPermitted := false,
    ignitionFed := false, gauge := needle, minRipple := 60 }

def lamp : Channel := Channel.build (load .lamp)
def fan : Channel := Channel.build (load .fan)
def flasher : Channel := Channel.build (load .flash)

/-- Station 1 in RUN: a LAMP at O0 mapped from function 10, a FAN at O1, a FLASH channel at O2; a sender at I0 and two
switches at I1 and I2; a switch's origin entry for function 20. -/
def base : State :=
  let s := State.afterReset .powerOn 1
  { s with
    stc := { s.stc with state := .run }
    common := some com
    sched := { s.sched with made := true }
    itm := { s.itm with
      inputs := tableMap (fun i x => { x with mode := if i.val = 0 then .sender else if i.val ≤ 2 then .switchToEarth
                                                      else .unused }) s.itm.inputs
      vs := 6320 }
    view := s.view ++ [ViewEntry.fresh 10 none .off]
    maps := [{ function := 10, channel := 0, mode := .direct, action := .off, filter := none }]
    chans := [(0, lamp), (1, fan), (2, flasher)] }

/-- The present boundary has left an event to a step of its own. -/
def leaving (e : BoundaryEvent) (s : State) : State := { s with clock := { s.clock with left := [e] } }

def withChan (n : ChannelNo) (c : Channel) (s : State) : State := s.modifyChan n (fun _ => c)
def withPeer (p : Station) (x : Peer) (s : State) : State := s.modifyPeer p (fun _ => x)
def withLine (l : LineState) (s : State) : State := { s with lif := { s.lif with line := l } }
def withQueue (l : List Entry) (s : State) : State := { s with txq := { s.txq with entries := l } }
def withOrigins (l : List Origin) (s : State) : State := { s with origins := { s.origins with entries := l } }
def withInput (i : InputNo) (x : Input) (s : State) : State :=
  { s with itm := { s.itm with inputs := tableModify i (fun _ => x) s.itm.inputs } }
def inState (st : StationState) (s : State) : State := { s with stc := { s.stc with state := st } }

/-- What a command does to a state. -/
def after (i : Instr) (s : State) : State :=
  match exec i s with
  | .next t => t
  | .fault _ => s
  | .refused _ => s

def section1 : StationSection :=
  { coded := true, modes := [.sender, .switchToEarth], origins := [], maps := base.maps,
    channels := [(0, load .lamp), (3, { load .gauge with action := .off })] }

/-- An image whose only bytes are the CRC-16 of no bytes at all: its fields stand beside them (log 9). -/
def image : ProfileImage :=
  { bytes := [0xFF, 0xFF], formatCode := 1, imageLength := 100, located := true, common := com,
    sections := [(1, section1)] }

def starting : State := State.afterReset .powerOn 1
def query (arg1 arg2 : Byte) : Query := { sender := 0, seq := 0, arg1 := arg1, arg2 := arg2 }
def statusOf (st : ReportedState) : StatusBody :=
  { beat := 7, state := st, lc := 2, charging := false, overBudget := false, learning := false, d0 := 1, d1 := 2,
    d2 := 3, d3 := 4, supply := 63, faults := 0 }
def switchOrigin : Origin :=
  Origin.build { function := 20, mode := .switch, first := 1, second := 0, closedValue := 255, openValue := 3,
                 comboOpenOpen := 0, comboClosedOpen := 0, comboOpenClosed := 0, comboClosedClosed := 0, offset := 0,
                 invert := false }
def lit : Channel := { lamp with applied := 1023, target := 1023, driven := 1023, trips := 1, composed := 255 }
def livePeer : Peer := { Peer.reset with presence := .live, age := 3, lastSeq := some 15 }
def oldStatus : StoredStatus :=
  { state := .run, lc := 1, d0 := 1, d1 := 1, d2 := 1, d3 := 1, supply := 63, faults := 0 }

/-! ## WellFormed refuses ill-formed commands -/

theorem test_refused_attempt_below_3000 : (Instr.profileAttemptEnd .noAnswer 2999).wellFormed = false := by decide
theorem test_refused_timeout_below_3000 : (Instr.profileTimeout 2999).wellFormed = false := by decide
theorem test_refused_ripple_above_255 : (Instr.ripplePulse 1 256).wellFormed = false := by decide
theorem test_refused_sample_supply : (Instr.samplePoint 2999 (List.replicate 8 0) false).wellFormed = false := by decide
theorem test_refused_sample_senders : (Instr.samplePoint 6320 [0] false).wellFormed = false := by decide
theorem test_refused_switch_voltages : (Instr.switchSamplingInstant [0] false).wellFormed = false := by decide
theorem test_refused_long_reception :
    (Instr.frameDiscarded { chars := List.replicate 16 0, ending := .complete }).wellFormed = false := by decide
theorem test_refused_no_pairs : (Instr.functionReceived 1 0 []).wellFormed = false := by decide
theorem test_refused_seven_pairs :
    (Instr.functionReceived 1 0 [(1, 0), (2, 0), (3, 0), (4, 0), (5, 0), (6, 0), (7, 0)]).wellFormed = false := by decide
theorem test_refused_function_0 : (Instr.functionReceived 1 0 [(0, 1)]).wellFormed = false := by decide
theorem test_refused_function_twice : (Instr.functionReceived 1 0 [(9, 1), (9, 2)]).wellFormed = false := by decide
theorem test_refused_no_readings : (Instr.readingReceived 1 0 []).wellFormed = false := by decide
theorem test_refused_input_twice :
    (Instr.readingReceived 1 0 [⟨0, true, 5⟩, ⟨0, true, 6⟩]).wellFormed = false := by decide
theorem test_refused_seven_readings :
    (Instr.readingReceived 1 0 (List.replicate 7 ⟨0, true, 5⟩)).wellFormed = false := by decide
theorem test_refused_view_entry_0 : (Instr.viewEntryStale 0).wellFormed = false := by decide
theorem test_refused_view_entry_256 : (Instr.viewEntryStale 256).wellFormed = false := by decide
theorem test_refused_item_7 : (Instr.serviceQueryNoSuchItem (query 0 0) 7).wellFormed = false := by decide
theorem test_refused_sense_count : (Instr.pulsePeriod ⟨[], false⟩).wellFormed = false := by decide
theorem test_refused_sense_above_255 : (Instr.pulsePeriod ⟨List.replicate 12 ⟨0, 256⟩, false⟩).wellFormed = false := by
  decide
theorem test_refused_start_above_255 : (Instr.pulsePeriod ⟨List.replicate 12 ⟨256, 0⟩, false⟩).wellFormed = false := by
  decide
theorem test_refused_reply_length : (Instr.serviceReplyReceived 1 ⟨0, 10⟩).wellFormed = false := by decide
theorem test_refused_reply_data :
    (Bulletin.mk 1 0 (.reply 0 1 .done (List.replicate 10 0))).wellFormed = false := by decide

/-! ## Worked figures of the manual -/

/-- Worked bulletin of Chapter 9: LAMP OUT LEFT from station 2, its check 49 hex. -/
theorem test_alert_check_character :
    ({ sender := 2, seq := 0, body := .alert .lampOutLeft 1 } : Bulletin).encode = [0x0A, 0x02, 0x01, 0x01, 0x49] := by
  decide +kernel

/-- R158: last sequence 15 and a new sequence of 1 make a gap of 1. -/
theorem test_sequence_gap : sequenceGap 15 1 = 1 := by decide

/-- R85: V_zero 4800, V_full 1200 and d 333 give 3602 mV. -/
theorem test_reversed_gauge_voltage : gaugeVoltage needle 333 = 3602 := by decide

/-- TABLE 28, first row: a panel lamp at 128 of 6000 mV on 6850 mV has duty 197. -/
theorem test_panel_lamp_duty : (({ lamp with composed := 128 } : Channel).drive 6850).target = 197 := by decide

/-- TABLE 28: a heater fan at 153 of 6000 mV on 6850 mV has duty 538. -/
theorem test_fan_duty : (({ fan with composed := 153 } : Channel).drive 6850).target = 538 := by decide

/-- TABLE 28: a headlamp at 253 on 5900 mV has duty 1023 in under-supply. -/
theorem test_under_supply :
    (({ lamp with composed := 253 } : Channel).drive 5900).target = 1023
      ∧ (({ lamp with composed := 253 } : Channel).drive 5900).underSupply = true := by decide

/-- R23: at 6320 mV the thresholds are 2370 and 3950 mV. -/
theorem test_switch_thresholds :
    switchSample .switchToFeed 6320 none 4100 = true ∧ switchSample .switchToFeed 6320 (some true) 3500 = true
      ∧ switchSample .switchToEarth 6320 none 2370 = false ∧ switchSample .switchToEarth 6320 none 2369 = true := by
  decide

/-! ## Single steps -/

/-- R60: b goes from 255 to 0. -/
theorem test_boundary_wraps :
    (after (.beatBoundary {}) { base with clock := { base.clock with b := 255 } }).clock.b = 0 := by decide +kernel

/-- TABLE 11: a change at 15.999 ms has 1 boundary remaining, one at 16 ms has 2. -/
theorem test_latch_point :
    ((after (.functionReceived 0 0 [(10, 9)]) { base with clock := { base.clock with position := 15999 - 2550 - 550 }
       }).chan 0).bind Channel.staged = some { value := 9, left := 1 }
    ∧ ((after (.functionReceived 0 0 [(10, 9)]) { base with clock := { base.clock with position := 16000 }
       }).chan 0).bind Channel.staged = some { value := 9, left := 2 } := by decide +kernel

/-- R144, R64: the worked FUNCTION of station 1 at sequence 6 begins 21 hex. -/
theorem test_attempt_frame :
    ((after .attempt (withQueue [Entry.make (.function [(5, 255)])]
      { base with txq := { base.txq with seq := 6 } })).lif.frame.take 2) = [0x21, 0x62] := by decide +kernel

/-- R104: a third trip latches, and an ALERT of code 4 with the first map function waits (R114). -/
theorem test_third_trip_latches :
    let t := after (.shortTrip 0) (withChan 0 { lamp with trips := 2, driven := 1023, applied := 1023, shortDue := true } base)
    ((t.chan 0).map Channel.protection, t.txq.entries.map Entry.body)
      = (some .latched, [.alert .channelLatched 10]) := by decide +kernel

/-- R36: the first supply sample of 6333 mV is 6320 and fills the ring. -/
theorem test_first_supply :
    (after (.profileAttemptEnd (.image image) 6333) starting).itm.supplyRing = List.replicate 8 6320 := by
  decide +kernel

/-- R29, R30: a sender at half the reference samples 2047; the fourth sample forms the reading. -/
theorem test_fourth_sample :
    let inputs := tableModify 0 (fun x : Input => { x with ring := [2047, 2047, 2047] }) base.itm.inputs
    ((after (.samplePoint 6320 (List.replicate 8 1250000) false)
      { base with itm := { base.itm with inputs := inputs } }).input 0).reading = 2047 := by decide +kernel

/-- R158: a peer heard at sequence 1 after 15 has a gap of 1. -/
theorem test_gap_counted :
    ((after (.serviceReplyReceived 0 ⟨1, 0⟩) (withPeer 0 livePeer base)).peer 0).gaps = 1 := by decide +kernel

/-- TABLE 60: an untouched LAMP's CHANNEL REPORT begins 20 hex (kind 1, NORMAL). -/
theorem test_channel_report :
    ((after (.channelReport (query 0 0)) base).txq.entries.map Entry.body)
      = [.reply 0 2 .done [0x20, 0, 0, 0, 0, 0]] := by decide +kernel

/-- R102: a reading of 255 whose trip is left enters its beat once, before and after the SHORT_TRIP. -/
theorem test_short_reads_once :
    let t := after (.pulsePeriod ⟨List.replicate 12 ⟨255, 255⟩, true⟩) (withChan 0 lit base)
    ((t.chan 0).map Channel.number, ((after (.shortTrip 0) t).chan 0).map (fun c => (c.number, c.protection)))
      = (some 1, some (1, .tripped)) := by decide +kernel

/-- R119: a fan at rest tested ON at the instant of a boundary makes one step there, not two. -/
theorem test_fan_steps_once :
    let s : State := { base with clock := { base.clock with position := 20000 }
                                 lif := { base.lif with line := .receiving, capture := { base.lif.capture with elapsed := 3500 } } }
    let t := after (.testChannel (query 1 255)) s
    ((t.chan 1).map Channel.applied, ((after (.beatBoundary {}) t).chan 1).map Channel.applied) = (some 64, some 64) := by
  decide +kernel

/-- R141: an edge 300 microseconds into the idle gap begins no bulletin, and the wait begins anew. -/
theorem test_edge_in_the_idle_gap :
    let t := after .startBitCapture { base with lif := { base.lif with recessive := 300 } }
    (t.lif.line, t.lif.recessive) = (.idle, 0) := by decide +kernel

/-- R141: the line is dominant for 700 microseconds from an early edge, and the gap of 550 is counted from their end. -/
theorem test_gap_after_a_long_edge :
    let s := withQueue [Entry.make (.alert .lampOutLeft 1)] { base with lif := { base.lif with recessive := 300 } }
    (after .attempt (after (.startBitCapture 700) s)).clock.position = 1250 := by decide +kernel

/-- R69: a STATUS whose start bit precedes the boundary that re-phased the timer records p and m on the present grid:
5.5 ms ago, 2 ms into the beat, is 16.5 ms into the beat before. -/
theorem test_record_on_the_present_grid :
    (startPosition 2000 5500, startBoundaries 2000 5500) = (16500, 1) := by decide

/-- R146: a reply with nine characters of data is delivered at the end of its 15 characters. -/
theorem test_long_reply_ends_later :
    (after (.serviceReplyReceived 0 ⟨1, 9⟩) { base with lif := { base.lif with recessive := 550 } }).clock.position = 7500 := by
  decide +kernel

/-- R149: a stuck line counts one stuck event. -/
theorem test_stuck_event : (after .lineStuck base).lif.counters.stuckEvents = 1 := by decide +kernel

/-! ## Witnesses: for each statement with hypotheses, a state and operands that meet them -/

theorem witness_StepRunsTheFrontCommand :
    ({ base with pending := [.powerOnReset, .refresh] } : State).pending = .powerOnReset :: [.refresh] := by
  decide +kernel

theorem witness_EmptyQueueLetsTimePass :
    (base.pending = [] ∧ base.timerRuns = true) ∧ (starting.pending = [] ∧ starting.starting = true)
      ∧ (let s : State := { base with hold := { powerOn := false, pin := true, service := false } }
         s.pending = [] ∧ s.held = true) := by decide +kernel

theorem witness_ResetEndRestoresResetValues :
    let s : State := { base with hold := { powerOn := false, pin := true, service := false } }
    s.hold.stands .pin = true ∧ s.hold.clear .pin = { powerOn := false, pin := false, service := false } := by
  decide +kernel

theorem witness_ResetHoldsAndReleasesThePart :
    let s : State := { base with hold := { powerOn := true, pin := true, service := false } }
    s.hold.stands .powerOn = true
      ∧ s.hold.clear .powerOn ≠ { powerOn := false, pin := false, service := false } := by decide +kernel

theorem witness_HeldAndStartingPartsIgnoreCommands :
    (isReset .refresh = false ∧ ({ base with hold := { powerOn := false, pin := true, service := false } } : State).held
        = true)
      ∧ (isReset .refresh = false ∧ starting.stc.state = .start ∧ isProfile .refresh = false) := by decide +kernel

theorem witness_ProfileFaultsAreTriedAgainOrEndStart :
    (starting.starting = true ∧ starting.txq.entries = [] ∧ NothingOffered starting ∧ starting.sched.made = false
        ∧ starting.stc.parkingPending = false ∧ starting.profileLate = false
        ∧ imageFault 1 { image with formatCode := 2 } = some .badFormat
        ∧ imageFault 1 { image with common := { com with nominal := 7 } } = some .badValue
        ∧ imageFault 1 { image with sections := [(1, { section1 with coded := false })] } = some .badValue
        ∧ imageFault 2 image = some .noSection)
      ∧ (∀ k ∈ [0, 1, 2], ({ starting with stc := { starting.stc with attempts := k } } : State).starting = true)
      ∧ NoStatusDue starting
      ∧ imageFault 1 { image with bytes := [0, 0] } = some .badCheck := by decide +kernel

theorem witness_AcceptedProfileEntersRun :
    starting.starting = true ∧ starting.profileLate = false ∧ imageFault starting.stc.own image = none
      ∧ tableGet starting.stc.own image.sections = some section1 ∧ starting.txq.entries = []
      ∧ NothingOffered starting ∧ starting.sched.made = false ∧ starting.stc.parkingPending = false := by decide +kernel

/-- The image, and the image with one fault each: check, format, own section, a common field, a section field, a curve of
one point, and two map entries of one function that differ. -/
theorem witness_FirstFailedCheckGivesTheFault :
    (imageCheckHolds [0, 0] = false ∧ imageCheckHolds image.bytes = true ∧ FormatHolds image
      ∧ image.common.sections.getLsbD (1 : Station).val = true ∧ image.common.sections.getLsbD (2 : Station).val = false
      ∧ CommonHolds image.common ∧ SectionHolds 1 image section1 ∧ CurvesHold section1 ∧ NoConflict section1)
    ∧ ¬ FormatHolds { image with formatCode := 2 } ∧ ¬ CommonHolds { com with nominal := 7 }
    ∧ ¬ SectionHolds 1 image { section1 with coded := false }
    ∧ ¬ CurvesHold { section1 with channels := [(3, { load .gauge with gauge := { needle with curve := [(1, 0)] } })] }
    ∧ ¬ NoConflict { section1 with maps := [{ function := 4, channel := 0, mode := .direct, action := .on, filter := none }]
                   } := by
  refine ⟨⟨by decide +kernel, by decide +kernel, ⟨rfl, by decide, rfl, ?_⟩, by decide, by decide,
    by unfold CommonHolds; decide, ?_, ?_, ?_⟩, fun h => absurd h.1 (by decide), fun h => ?_, fun h => absurd h.1 (by decide),
    fun h => ?_, fun h => ?_⟩
  · have h : ∀ p : Station, image.common.sections.getLsbD p.val = true → p = 1 := by decide +kernel
    intro p hp
    exact ⟨section1, by rw [h p hp]; rfl⟩
  · simp [SectionHolds, ChannelHolds, GaugeHolds, section1, load, base, needle, sectionChannel, remoteSources,
      sectionGauges, senderModeAt, sectionMode]
    intro _ _ h
    omega
  · simp [CurvesHold, section1, load, needle]
  · simp [NoConflict, section1, base]
  · unfold CommonHolds at h
    exact absurd h (by decide)
  · exact absurd (h _ (List.mem_singleton.2 rfl) rfl).1 (by decide)
  · exact absurd ((h.2 _ (List.mem_singleton.2 rfl)).2.2 (Or.inl rfl)) (by decide)

theorem witness_BoundaryFormsTheFlashState : base.timerRuns = true := by decide +kernel

def pendingAt (p : Nat) : PendingAlign := { reference := 0, bRef := 250, beat := 20, position := p, boundaries := 12 }

theorem witness_BoundaryMovesTheBeatTimer :
    (base.timerRuns = true ∧ base.flash.pendingAlign = none)
      ∧ (∀ p ∈ [0, 1, 19999],
          let s : State := { base with clock := { base.clock with b := 31 }
                                       flash := { base.flash with pendingAlign := some (pendingAt p) } }
          s.timerRuns = true ∧ s.flash.pendingAlign = some (pendingAt p) ∧ (s.clock.b + 1) % 32 = 0
            ∧ ({} : BoundaryOrder).leave.contains .pendingAlignmentApplied = false)
      ∧ (let s : State := { withPeer 0 { livePeer with status := some oldStatus, statusAge := 47 } base with
           flash := { base.flash with reference := 0, pendingAlign := some (pendingAt 1) } }
         s.timerRuns = true ∧ (s.clock.b + 1) % 32 ≠ 0
           ∧ (after (.beatBoundary {}) s).flash.reference ≠ s.flash.reference)
      ∧ (let s : State := { base with flash := { base.flash with pendingAlign := some (pendingAt 1) } }
         (after (.beatBoundary {}) s).takenOf .ignition = 0
           ∧ (∀ p, ((after (.beatBoundary {}) s).peer p).presence = (s.peer p).presence)
           ∧ ∀ e ∈ (after (.beatBoundary {}) s).peers, e.2.statusAge ≠ 48)
      ∧ (let s := leaving .pendingAlignmentApplied
           { base with clock := { base.clock with b := 32 }
                       flash := { base.flash with pendingAlign := some (pendingAt 0) } }
         s.leftOver .pendingAlignmentApplied = true ∧ s.flash.pendingAlign = some (pendingAt 0)
           ∧ s.clock.b % 32 = 0) := by decide +kernel

theorem witness_BoundaryTakesStagedValues :
    base.timerRuns = true ∧ ({} : BoundaryOrder).leave = [] ∧ ({} : BoundaryOrder).findingFirst = true
      ∧ (∀ e ∈ base.chans, e.2.protection ≠ .latched)
      ∧ ∀ k ∈ [1, 2], (withChan 0 { lamp with staged := some { value := 9, left := k }, test := some ⟨true, k⟩ } base).chan 0
          = some { lamp with staged := some { value := 9, left := k }, test := some ⟨true, k⟩ } := by decide +kernel

theorem lamp_sound (c : Channel) (h : c.applied ≤ 1023 ∧ c.target ≤ 1023 ∧ c.p ≤ 1000 ∧ c.d ≤ 1000
    ∧ c.prof.kind ≠ .gauge ∧ (c.driveable = false → c.applied = 0) ∧ c.base = none ∧ c.needle = none) : c.Sound := by
  obtain ⟨applied, target, p, d, lampKind, dark, fresh, still⟩ := h
  exact ⟨applied, target, p, d, fun _ _ gauge => absurd gauge lampKind, dark,
    fun _ found => (nomatch fresh.symm.trans found), fun _ found => (nomatch still.symm.trans found)⟩

theorem base_notYet (c : Channel) (now : Nat) (h : c.base = none) : c.NotYetAt now := fun b hb => by
  rw [h] at hb; exact nomatch hb

theorem base_noted (c : Channel) (now : Nat) (h : c.base = none ∧ c.needle = none) : c.NotedBy now :=
  ⟨fun _ hb => (nomatch h.1.symm.trans hb), fun _ hk => (nomatch h.2.symm.trans hk)⟩

theorem witness_BoundaryFormsDuties :
    base.timerRuns = true ∧ ({} : BoundaryOrder).leave = [] ∧ base.clock.position < 20000 ∧ base.chan 0 = some lamp
      ∧ lamp.Sound ∧ lamp.NotedBy base.clock.instant ∧ lamp.NotYetAt base.clock.instant
      ∧ ((after (.beatBoundary {}) (withChan 1 { fan with taken := 255 } base)).chan 1).map
          (fun x => (x.driveable, x.applied)) = some (true, 64) :=
  ⟨by decide +kernel, rfl, by decide +kernel, by decide +kernel, lamp_sound _ (by decide +kernel),
    base_noted _ _ ⟨rfl, rfl⟩, base_notYet _ _ rfl, by decide +kernel⟩

def turningAt (w : StallWindow) : Channel := { fan with applied := 1023, target := 1023, window := some w }

/-- A channel for each case of the statement. -/
def judged : List Channel :=
  [lit, { lit with normalSince := false }, { lit with overcurrent := 1, sum := 81, number := 1 },
   { lit with protection := .blanking, blanking := 1 },
   { lamp with protection := .tripped, wait := 1 }, { lamp with protection := .tripped, wait := 2 },
   { lamp with protection := .latched, release := 0 }, { lamp with protection := .latched, release := 1 },
   turningAt { left := 2, ripple := 0 }, turningAt { left := 1, ripple := 60 }, turningAt { left := 1, ripple := 59 },
   { turningAt { left := 1, ripple := 59 } with trips := 2, normalRun := 249, openCount := 1, dutyHeld := true }]

theorem witness_BoundaryJudgesTheBeat :
    base.timerRuns = true ∧ ({} : BoundaryOrder).leave = [] ∧ base.clock.position < 20000
      ∧ ∀ c ∈ judged, (withChan 0 c base).chan 0 = some c ∧ c.Sound ∧ c.NotYetAt base.clock.instant := by
  refine ⟨by decide +kernel, rfl, by decide +kernel, ?_⟩
  intro c hc
  have h : ∀ c ∈ judged, (withChan 0 c base).chan 0 = some c ∧ c.base = none
          ∧ (c.applied ≤ 1023 ∧ c.target ≤ 1023 ∧ c.p ≤ 1000 ∧ c.d ≤ 1000
            ∧ c.prof.kind ≠ .gauge ∧ (c.driveable = false → c.applied = 0) ∧ c.base = none ∧ c.needle = none) := by
    decide +kernel
  obtain ⟨h1, h2, h3⟩ := h c hc
  exact ⟨h1, lamp_sound c h3, base_notYet c _ h2⟩

/-- R104, R109: at one boundary the check reaches a NORMAL run of 250 and the window its verdict. The check first leaves a
trip count of 1, the verdict first latches at 3; the OPEN flag is set by the check alone. -/
theorem test_check_and_verdict :
    let c : Channel := { turningAt { left := 1, ripple := 59 } with trips := 2, normalRun := 249, openCount := 1,
                                                                     dutyHeld := true, taken := 255, composed := 255 }
    let t := fun f => (after (.beatBoundary { stallFirst := f }) (withChan 1 c base)).chan 1
    ((t false).map (fun x => (x.trips, x.protection, x.openFlag)), (t true).map (fun x => (x.trips, x.protection, x.openFlag)))
      = (some (1, .tripped, true), some (3, .latched, false)) := by decide +kernel

theorem witness_LowSupplyEntersSag :
    let s : State := { base with itm := { base.itm with vs := 5599 } }
    s.held = false ∧ s.stc.state = .run ∧ s.common = some com ∧ s.itm.vs < com.sagThreshold
      ∧ (∀ e ∈ s.txq.entries, e.restart = false)
      ∧ (let s : State := { s with stc := { s.stc with parkingPending := true }, itm := { s.itm with readingCount := 14 }
                                   origins := { s.origins with refreshCount := 30 } }
         s.held = false ∧ s.stc.state = .run ∧ s.common = some com ∧ s.itm.vs < com.sagThreshold
           ∧ (∀ e ∈ s.txq.entries, e.restart = false) ∧ s.stc.parkingPending = true ∧ s.txq.entries.length < 8
           ∧ s.origins.refreshCount < 31 ∧ s.itm.readingCount < 15
           ∧ ∀ e ∈ s.chans, e.2.FarFromAlert) := by decide +kernel

def dueLamp : Channel := { lamp with staged := some { value := 200, left := 0 } }

theorem witness_StagedValuesAndOverridesEnd :
    (let s := leaving .stagedValueTaken (withChan 0 dueLamp base)
     s.leftOver .stagedValueTaken = true ∧ s.chan 0 = some dueLamp ∧ dueLamp.prof.kind = .lamp
       ∧ dueLamp.staged = some { value := 200, left := 0 }
       ∧ s.withheld { dueLamp with taken := 200, staged := none } = false)
      ∧ (let c : Channel := { dueLamp with test := some ⟨true, 0⟩ }
         let s := leaving .stagedValueTaken (withChan 0 c base)
         s.chan 0 = some c ∧ s.withheld { c with taken := 200, staged := none } = true)
      ∧ (let c : Channel := { lamp with test := some ⟨true, 0⟩, composed := 255 }
         let s := leaving .testOverrideExpiry (withChan 0 c base)
         s.leftOver .testOverrideExpiry = true ∧ s.chan 0 = some c ∧ c.test = some ⟨true, 0⟩
           ∧ s.withheld { c with test := none } = false) := by decide +kernel

theorem witness_IntrinsicValueIsTaken :
    let s : State := { base with
      clock := { base.clock with position := 20000 }
      intrinsics := tableModify .ignition (fun x => { x with staged := some { value := 255, left := 1 } }) base.intrinsics }
    s.timerRuns = true ∧ s.clock.position = 20000
      ∧ tableGet .ignition s.intrinsics = some { staged := some { value := 255, left := 1 }, taken := 0 } := by
  decide +kernel

/-- A due value, one of two boundaries, and a fresh indicator that goes STALE beside a due value, at a whole boundary; and
IGNITION's rise. -/
theorem witness_IntrinsicValueIsTaken_boundary :
    (∀ k ∈ [1, 2],
      let s : State := { base with
        intrinsics := tableModify .stop (fun x => { x with staged := some { value := 9, left := k } }) base.intrinsics }
      let t := after (.beatBoundary {}) s
      s.timerRuns = true ∧ ({} : BoundaryOrder).leave = [] ∧ s.origins.refreshCount < 31 ∧ s.clock.position < 20000
        ∧ tableGet .stop s.intrinsics = some { staged := some { value := 9, left := k }, taken := 0 }
        ∧ tableGet .stop t.intrinsics
            = some (if k = 1 then { staged := none, taken := 9 } else { staged := some { value := 9, left := 1 }, taken := 0 }))
    ∧ (let s : State := { base with
         view := [{ ViewEntry.fresh 1 none .off with value := 7, source := some 0, freshness := .fresh, age := 127 }]
         intrinsics := tableModify .indicateLeft (fun _ => { staged := some { value := 7, left := 1 }, taken := 3 })
           base.intrinsics }
       tableGet .indicateLeft (after (.beatBoundary {}) s).intrinsics = some { staged := some { value := 0, left := 1 }, taken := 7 })
    ∧ (let s : State := { base with
         alertSeen := true
         intrinsics := tableModify .ignition (fun x => { x with staged := some { value := 255, left := 1 } }) base.intrinsics }
       let t := after (.beatBoundary {}) s
       s.takenOf .ignition = 0 ∧ 0 < t.takenOf .ignition ∧ t.alertSeen = false) := by decide +kernel

def shorted : Channel := { lit with shortDue := true }
def overloaded : Channel := { lit with overcurrent := 2 }
def seized : Channel := { fan with applied := 1023, target := 1023, window := some { left := 0, ripple := 59 } }
def turning : Channel := { seized with window := some { left := 0, ripple := 60 } }

theorem witness_TripsTakeTheFiveSteps :
    (let s := withChan 0 shorted base
     s.chan 0 = some shorted ∧ shorted.driveable = true ∧ s.works = true ∧ 0 < shorted.driven
       ∧ shorted.shortDue = true)
      ∧ (let c : Channel := { shorted with trips := 2 }
         (withChan 0 c base).chan 0 = some c ∧ c.driveable = true ∧ 3 ≤ c.trips + 1
           ∧ (withChan 0 c base).txq.entries.length + 2 ≤ 8)
      ∧ (let s := leaving .overcurrentTrip (withChan 0 overloaded base)
         s.chan 0 = some overloaded ∧ overloaded.driveable = true ∧ s.leftOver .overcurrentTrip = true
           ∧ 2 ≤ overloaded.overcurrent)
      ∧ (let s := leaving .stallVerdict (withChan 1 seized base)
         s.chan 1 = some seized ∧ seized.driveable = true ∧ s.leftOver .stallVerdict = true
           ∧ seized.prof.kind = .fan
           ∧ seized.window = some { left := 0, ripple := 59 } ∧ 59 < seized.prof.minRipple)
      ∧ (let c : Channel := { lit with protection := .tripped }
         (withChan 0 c base).chan 0 = some c ∧ c.driveable = false ∧ c.shortDue = false)
      ∧ (let s := leaving .stallVerdict (withChan 1 turning base)
         s.leftOver .stallVerdict = true ∧ s.chan 1 = some turning ∧ turning.window = some { left := 0, ripple := 60 }
           ∧ turning.prof.minRipple ≤ 60 ∧ turning.protection = .normal
           ∧ s.withheld { turning with window := none } = false)
      ∧ turning.NotYetAt base.clock.instant := by
  have unheard : turning.NotYetAt base.clock.instant := base_notYet _ _ rfl
  simp only [unheard, and_true]
  decide +kernel

theorem witness_OpenFlagMarksTheSide :
    (let c : Channel := { flasher with openCount := 2 }
     ∀ x ∈ [SideFlash.mk true false 32 true false false, .mk true false 32 false false false,
            .mk false false 32 false false false],
       let s := leaving .openFlagSet (withChan 2 c { base with flash := { base.flash with left := x } })
       s.leftOver .openFlagSet = true ∧ s.chan 2 = some c ∧ c.openCount = 2 ∧ c.openFlag = false
         ∧ c.flashSide = some .left ∧ s.txq.entries.length + 1 ≤ 8)
      ∧ (∀ c ∈ [{ lamp with openCount := 2 }, { lamp with openLeft := true }],
         let s := leaving .openFlagSet (withChan 0 c base)
         s.leftOver .openFlagSet = true ∧ s.chan 0 = some c ∧ (c.openCount = 2 ∨ c.openLeft = true) ∧ c.openFlag = false
           ∧ c.flashSide = none) := by decide +kernel

/-- Both sides' lamps are on, the left side's indicator active. -/
def blinking : State :=
  let side : SideFlash := { act := true, fast := false, period := 32, on := true, failed := false, alertSent := false }
  { base with flash := { base.flash with left := side }
              intrinsics := tableModify .indicateLeft (fun x => { x with taken := 255 }) base.intrinsics }

def darkFlasher (flagged : Bool) (count : Nat) : Channel :=
  { flasher with applied := 1023, target := 1023, driven := 1023, dutyHeld := true, openFlag := flagged, openCount := count }

/-- A FLASH lamp still out, one newly found out, one found out on an inactive side; a LAMP newly found out; a third trip: the
ALERT and the side that TABLE 38 gives each. -/
theorem witness_OpenFlagMarksTheSide_boundary :
    (∀ c ∈ [darkFlasher true 2, darkFlasher false 1],
      let s := withChan 2 c blinking
      let t := after (.beatBoundary {}) s
      s.timerRuns = true ∧ ({} : BoundaryOrder).leave = [] ∧ ({} : BoundaryOrder).findingFirst = true
        ∧ s.chan 2 = some c ∧ c.flashSide = some .left ∧ s.clock.position < 20000 ∧ (s.flash.side .left).on = true
        ∧ (s.flash.side .left).act = true ∧ (s.flash.side .left).alertSent = false ∧ (t.flash.side .left).act = true
        ∧ t.txq.entries.length < 8 ∧ (∀ e ∈ s.txq.entries, e.body.kind ≠ 8)
        ∧ (t.flash.left.failed, t.txq.entries.map Entry.body) = (true, [.alert .lampOutLeft 1]))
    ∧ (darkFlasher true 2).findsOut ∧ (darkFlasher false 1).findsOut
    ∧ (darkFlasher true 2).NotYetAt blinking.clock.instant
    ∧ (∀ q ∈ [(withChan 2 (darkFlasher false 1) base, Body.alert .lampOutOther 0),
              (withChan 0 { lit with openCount := 1, dutyHeld := true } base, .alert .lampOutOther 10),
              (withChan 0 { lit with trips := 2, overcurrent := 1, sum := 81, number := 1 } base, .alert .channelLatched 10)],
        ((after (.beatBoundary {}) q.1).txq.entries.map Entry.body) = [q.2]) := by
  refine ⟨by decide +kernel, ?_, ?_, base_notYet _ _ rfl, by decide +kernel⟩ <;> unfold Channel.findsOut <;> decide +kernel

/-- R112: an OPEN flag due at the check of a boundary, and left, is set by its step although the channel steps up from 0 at
that boundary, its override of one beat expiring there. -/
theorem test_left_flag_outlives_a_step :
    let c : Channel := { lamp with taken := 255, test := some ⟨false, 1⟩, openCount := 1, dutyHeld := true }
    let t := after (.beatBoundary { leave := [.openFlagSet] }) (withChan 0 c base)
    ((t.chan 0).map (fun x => (x.openFlag, x.openCount)), ((after (.openFlagSet 0) t).chan 0).map Channel.openFlag)
      = (some (false, 0), some true) := by decide +kernel

theorem witness_ProtectionStatesEnd :
    (let c : Channel := { lit with protection := .blanking }
     let s := leaving .blankingEnd (withChan 0 c base)
     s.leftOver .blankingEnd = true ∧ s.chan 0 = some c ∧ c.protection = .blanking ∧ c.blanking = 0 ∧ c.overcurrent = 0)
    ∧ (∀ k ∈ [249, 250],
        let c : Channel := { lit with normalRun := k }
        let s := leaving .tripCountClear (withChan 0 c base)
        s.leftOver .tripCountClear = true ∧ s.chan 0 = some c)
    ∧ (∀ v ∈ [0, 255],
      let c : Channel := { lamp with protection := .tripped, trips := 1, cause := some .short, composed := v }
      let s := leaving .retryWaitEnd (withChan 0 c base)
      s.leftOver .retryWaitEnd = true ∧ s.chan 0 = some c ∧ c.protection = .tripped ∧ c.wait = 0
        ∧ s.withheld c = false)
      ∧ ∀ v ∈ [0, 1023],
          let c : Channel := { lamp with protection := .latched, trips := 3, release := 2, target := v }
          let s := leaving .latchRelease (withChan 0 c base)
          s.leftOver .latchRelease = true ∧ s.chan 0 = some c ∧ c.protection = .latched
            ∧ c.release = 2 ∧ s.withheld c = false := by decide +kernel

/-- An entry whose age runs out at the next boundary, which wakes a PARKED station. -/
def waking : ViewEntry :=
  { ViewEntry.fresh 10 none .off with value := 9, source := some 0, freshness := .fresh, age := 127 }

def knownOrigin : Origin := { switchOrigin with present := some 3, sent := some 3 }

theorem witness_RefreshOffersEveryPresentValue :
    ∀ l ∈ [[], List.replicate 7 (Entry.make (.alert .lampOutLeft 1))],
      let s := leaving .refresh (withQueue l { base with origins := { entries := [knownOrigin], refreshCount := 32 } })
      s.leftOver .refresh = true ∧ s.origins.refreshCount = 32 ∧ s.lif.listenOnly = false
        ∧ NoStatusDue s
        ∧ (s.origins.entries.map (fun o => BitVec.ofNat 8 o.prof.function : Origin → Byte)).Nodup
        ∧ s.txq.entries.length + s.origins.entries.length ≤ 8
        ∧ s.origins.entries.length ≤ 6 ∧ (∃ o ∈ s.origins.entries, o.present.isSome = true)
        ∧ knownOrigin.present = some 3 := by decide +kernel

/-- A LISTEN-ONLY station whose own origin entry's function stands in its view, at a boundary with a refresh and at the
refresh that a boundary left. -/
theorem witness_RefreshOffersEveryPresentValue_listenOnly :
    let e : ViewEntry := { ViewEntry.fresh 20 none .off with source := some 0, freshness := .fresh, age := 9 }
    let s : State := { base with origins := { entries := [knownOrigin], refreshCount := 31 }, view := [e]
                                 lif := { base.lif with listenOnly := true } }
    (s.timerRuns = true ∧ s.stc.state = .run ∧ s.lif.listenOnly = true ∧ knownOrigin.present = some 3
      ∧ s.view.find? (fun x => x.function == knownOrigin.prof.function % 256) = some e ∧ e.filter = none
      ∧ (after (.beatBoundary {}) s).view
          = [{ e with value := 3, source := some 1, age := 0, contention := 1 }])
    ∧ (let s := leaving .refresh { s with origins := { s.origins with refreshCount := 32 } }
       s.leftOver .refresh = true ∧ s.origins.refreshCount = 32
         ∧ (s.origins.entries.map (fun o => BitVec.ofNat 8 o.prof.function : Origin → Byte)).Nodup) := by decide +kernel

/-- A whole boundary in each state, with room for all that it offers, before and at the count of its refresh. -/
theorem witness_RefreshOffersEveryPresentValue_boundary :
    (∀ st ∈ [StationState.run, .sag, .parked, .configFault], (inState st base).timerRuns = true)
    ∧ ∀ k ∈ [30, 31],
        let s : State := { base with origins := { entries := [knownOrigin], refreshCount := k } }
        s.stc.state = .run ∧ (s.origins.entries.map (fun o => BitVec.ofNat 8 o.prof.function : Origin → Byte)).Nodup
          ∧ NewInstant s ∧ s.txq.entries = [] ∧ s.lif.listenOnly = false ∧ s.origins.entries.length ≤ 6
          ∧ (∀ e ∈ s.chans, e.2.FarFromAlert)
          ∧ ((after (.beatBoundary {}) s).origins.refreshCount, (after (.beatBoundary {}) s).txq.entries.map Entry.body)
              = if k = 31 then (0, [.function [(20, 3)]]) else (31, []) := by decide +kernel

theorem witness_ScheduledReadingCarriesEverySender :
    (let s := leaving .scheduledReading { base with itm := { base.itm with readingCount := 16 } }
     s.leftOver .scheduledReading = true ∧ s.itm.readingCount = 16 ∧ NoStatusDue s
       ∧ s.txq.entries = [])
    ∧ (base.timerRuns = true ∧ base.stc.state = .run ∧ (∃ e ∈ base.itm.inputs, e.2.mode = .sender)
        ∧ ¬ ∃ e ∈ starting.itm.inputs, e.2.mode = .sender)
    ∧ (let s : State := { inState .parked base with view := [waking] }
       s.timerRuns = true ∧ s.stc.state = .parked ∧ (after (.beatBoundary {}) s).stc.state ≠ .parked) := by decide +kernel

def settledSwitch : Input :=
  { Input.reset with mode := .switchToEarth, history := [true, true, true, true], accepted := true, settle := 4 }

/-- A count before its last, one at it, an early request with and without its spacing. -/
theorem witness_StatusIsMadeFromThisInstant_boundary :
    ∀ p ∈ [(14, false, 0), (15, false, 0), (3, true, 0), (3, true, 1)],
      let s : State := { base with sched := { base.sched with count := p.1, early := p.2.1, spacing := p.2.2 } }
      s.timerRuns = true ∧ s.stc.parkingPending = false ∧ (∀ e ∈ s.txq.entries, e.parkedStatus = false)
        ∧ s.origins.refreshCount < 31 ∧ NewInstant s ∧ s.txq.entries = [] ∧ s.lif.listenOnly = false
        ∧ (∀ e ∈ s.chans, e.2.FarFromAlert)
        ∧ (after (.beatBoundary {}) s).sched.count = if p.1 = 14 then 15 else if p = (3, true, 0) then 4 else 0 := by
  decide +kernel

theorem witness_StatusIsMadeFromThisInstant :
    (let s := leaving .scheduledStatus { base with sched := { base.sched with count := 16 } }
     s.leftOver .scheduledStatus = true ∧ s.sched.count = 16 ∧ s.txq.entries.length < 8 ∧ NothingOffered s
       ∧ ∀ e ∈ s.txq.entries, e.waits 12 = false)
      ∧ (let s := leaving .earlyStatus { base with sched := { base.sched with early := true, spacing := 2 } }
         s.leftOver .earlyStatus = true ∧ s.sched.early = true ∧ s.stc.state ≠ .parked ∧ 2 ≤ s.sched.spacing
           ∧ s.txq.entries.length < 8 ∧ ∀ e ∈ s.txq.entries, e.waits 12 = false) := by decide +kernel

/-- A station whose parking is pending, at the instant of a boundary and of a switch sampling at which a switch is accepted. -/
def unparking : State :=
  let s := withInput 1 { settledSwitch with accepted := false, history := [true, true, true] } base
  { s with stc := { s.stc with parkingPending := true }, clock := { s.clock with position := 20000, sinceSwitch := 5000 }
           itm := { s.itm with vs := 5599 } }

/-- The station after that switch sampling, which has abandoned the parking and made a STATUS. -/
def unparked : State := after (.switchSamplingInstant (List.replicate 8 0) false) unparking

/-- R154: the STATUS of an abandoned parking, and a boundary of the same instant that enters SAG: the one STATUS carries
SAG, and no early request stands. -/
theorem test_status_of_an_instant :
    let bodies := fun (s : State) => s.txq.entries.map (fun e => match e.body with
      | .status x => (12, x.state)
      | b => (b.kind, .run))
    let t := after (.beatBoundary {}) unparked
    (bodies unparked, bodies t, t.stc.state, t.sched.early, t.sched.made)
      = ([(12, .run)], [(12, .sag)], .sag, false, true) := by decide +kernel

/-- The station between the two commands of that instant meets the hypotheses of both clauses about a STATUS of an instant. -/
theorem witness_StatusIsMadeFromThisInstant_instant :
    (QueueInv unparked ∧ StatusCurrent unparked ∧ unparked.offered.statusMade = true)
    ∧ (unparked.timerRuns = true ∧ unparked.stc.parkingPending = false ∧ 20000 ≤ unparked.clock.position
      ∧ unparked.sched.early = false ∧ unparked.txq.entries = [Entry.make (.status unparked.statusBody)]
      ∧ unparked.offered = { before := [], offers := [.status unparked.statusBody], statusMade := true }
      ∧ unparked.origins.entries.length ≤ 6
      ∧ ∀ e ∈ unparked.chans, e.2.FarFromAlert) := by
  refine ⟨⟨by unfold QueueInv QueueShape; decide +kernel, fun _ e he _ x hx => ?_, by decide +kernel⟩, by decide +kernel⟩
  have one : ∀ e ∈ unparked.txq.entries, e.body = .status unparked.statusBody := by decide +kernel
  have same : x = unparked.statusBody := Body.status.inj (hx.symm.trans (one e he))
  subst same
  unfold StatusFigures
  decide +kernel

/-- Seven ALERTs and one entry of another kind, oldest first. -/
def crowded (e : Entry) : List Entry := e :: List.replicate 7 (Entry.make (.alert .lampOutLeft 1))

theorem crowded_givesUp (e : Entry) (k : Nat) (h : e.waits k = true
    ∧ (∀ x ∈ List.replicate 7 (Entry.make (.alert .lampOutLeft 1)), x.waits k = false)
    ∧ (k = 24 ∨ k = 12 ∧ (∀ x ∈ crowded e, x.waits 24 = false)
        ∨ k = 8 ∧ ∀ x ∈ crowded e, x.waits 24 = false ∧ x.waits 12 = false)
    ∧ e.restart = false ∧ e.parkedStatus = false) :
    GivesUp (crowded e) k [] e (List.replicate 7 (Entry.make (.alert .lampOutLeft 1))) := ⟨rfl, h⟩

theorem witness_FullQueueGivesWayByKind :
    (GivesUp (crowded (Entry.make (.reply 0 1 .done []))) 24 [] (Entry.make (.reply 0 1 .done []))
          (List.replicate 7 (Entry.make (.alert .lampOutLeft 1)))
        ∧ GivesUp (crowded (Entry.make (.status (statusOf .run)))) 12 [] (Entry.make (.status (statusOf .run)))
          (List.replicate 7 (Entry.make (.alert .lampOutLeft 1)))
        ∧ GivesUp (crowded (Entry.make (.reading [⟨0, true, 5⟩]))) 8 [] (Entry.make (.reading [⟨0, true, 5⟩]))
          (List.replicate 7 (Entry.make (.alert .lampOutLeft 1))))
      ∧ (∀ l ∈ [crowded (Entry.make (.reply 0 1 .done [])), crowded (Entry.make (.alert .lampOutLeft 1))],
          (let s := leaving .refresh (withQueue l { base with origins := { entries := [knownOrigin], refreshCount := 32 } })
           s.leftOver .refresh = true ∧ s.origins.refreshCount = 32 ∧ s.lif.listenOnly = false ∧ NoStatusDue s
             ∧ NothingOffered s ∧ s.origins.entries = [knownOrigin] ∧ knownOrigin.present = some 3
             ∧ s.txq.entries.length = 8 ∧ s.stc.parkingPending = false ∧ s.stc.state ≠ .parked
             ∧ (∀ e ∈ s.txq.entries, e.waits 4 = true →
                 e.holds (BitVec.ofNat 8 knownOrigin.prof.function) = false ∧ 6 ≤ e.pairs.length))
          ∧ (let c : Channel := { lamp with openCount := 2 }
             let s : State := { withChan 0 c (withQueue l base) with
               clock := { base.clock with left := [.openFlagSet, .earlyStatus] } }
             s.leftOver .openFlagSet = true ∧ s.chan 0 = some c ∧ c.openCount = 2 ∧ c.openFlag = false
               ∧ c.flashSide = none ∧ s.txq.entries.length = 8 ∧ BoundaryEvent.earlyStatus ∈ s.clock.left
               ∧ s.sched.due = false ∧ NothingOffered s
               ∧ (∀ e ∈ s.txq.entries, e.body ≠ .alert .lampOutOther (BitVec.ofNat 8 (s.firstMap 0))))
          ∧ (let s := leaving .scheduledStatus (withQueue l { base with sched := { base.sched with count := 16 } })
             s.leftOver .scheduledStatus = true ∧ s.sched.count = 16 ∧ s.txq.entries.length = 8 ∧ NothingOffered s
               ∧ ∀ x ∈ s.txq.entries, x.waits 12 = false)
          ∧ (let s := leaving .scheduledReading (withQueue l { base with itm := { base.itm with readingCount := 16 } })
             s.leftOver .scheduledReading = true ∧ s.itm.readingCount = 16 ∧ s.txq.entries.length = 8 ∧ NothingOffered s ∧ NoStatusDue s
               ∧ readingBodies s.itm.inputs = [.reading [⟨0, false, 0⟩]] ∧ ∀ x ∈ s.txq.entries, x.waits 8 = false)
          ∧ (let s := withQueue l base
             s.canHear = true ∧ (query 0 0).sender ≠ s.stc.own ∧ s.txq.entries.length = 8 ∧ NothingOffered s)) := by
  refine ⟨⟨crowded_givesUp _ _ (by decide +kernel), crowded_givesUp _ _ (by decide +kernel),
    crowded_givesUp _ _ (by decide +kernel)⟩, by decide +kernel⟩

def heardEntry : ViewEntry :=
  { ViewEntry.fresh 10 none .off with value := 9, source := some 0, freshness := .fresh, age := 128 }

theorem witness_OldViewEntryGoesStale :
    (let s := leaving .viewEntryStale { base with view := [heardEntry] }
     s.leftOver .viewEntryStale = true ∧ s.view.find? (fun x => x.function == 10) = some heardEntry
       ∧ heardEntry.freshness = .fresh ∧ 128 ≤ heardEntry.age ∧ heardEntry.source = some 0
       ∧ (0 : Station) ≠ s.stc.own ∧ (s.peer 0).presence ≠ .parked)
    ∧ (let s : State := { base with view := [waking] }
       s.timerRuns = true ∧ s.origins.refreshCount < 31 ∧ NewInstant s
         ∧ (after (.beatBoundary {}) s).view = [{ waking with age := 128, freshness := .stale }]) := by decide +kernel

/-- A LIVE, a STALE and a PARKED entry at the boundary that changes each; for the last IGNITION rises there. -/
theorem witness_SilentPeerIsGivenUp_boundary :
    (∀ p ∈ [(Presence.live, 47, Presence.stale), (.live, 46, .live), (.stale, 249, .absent), (.parked, 9, .parked)],
      let s := withPeer 0 { livePeer with presence := p.1, age := p.2.1 } base
      s.timerRuns = true ∧ tableGet 0 s.peers = some { livePeer with presence := p.1, age := p.2.1 }
        ∧ ((after (.beatBoundary {}) s).peer 0).presence = p.2.2)
    ∧ (∀ f ∈ [true, false],
      let s : State := { withPeer 0 { livePeer with presence := .parked, age := 9 } base with
        intrinsics := tableModify .ignition (fun x => { x with staged := some { value := 255, left := 1 } }) base.intrinsics }
      let t := after (.beatBoundary { restartFirst := f }) s
      s.takenOf .ignition = 0 ∧ 0 < t.takenOf .ignition ∧ (t.peer 0).age = if f then 1 else 0) := by decide +kernel

theorem witness_SilentPeerIsGivenUp :
    (let x : Peer := { livePeer with age := 48 }
     let s := leaving .peerStale (withPeer 0 x base)
     (0 : Station) ≠ s.stc.own ∧ tableGet 0 s.peers = some x ∧ s.leftOver .peerStale = true ∧ x.presence = .live
       ∧ 48 ≤ x.age)
      ∧ (let x : Peer := { livePeer with presence := .stale, age := 250 }
         let s := leaving .peerAbsent { withPeer 0 x base with view := [heardEntry] }
         (0 : Station) ≠ s.stc.own ∧ tableGet 0 s.peers = some x ∧ s.leftOver .peerAbsent = true
           ∧ x.presence = .stale ∧ 250 ≤ x.age
           ∧ s.view.find? (fun y => y.function == 10) = some heardEntry ∧ heardEntry.freshness = .fresh
           ∧ heardEntry.source = some 0) := by decide +kernel

/-- A peer whose parking STATUS is 60 beats old is no candidate for reference when IGNITION restarts it, nor after a
FUNCTION of its own, and is one with its next STATUS (R62, R160). -/
theorem test_restarted_peer_is_no_candidate :
    let parked : Peer := { livePeer with presence := .parked, status := some { oldStatus with state := .parked }, statusAge := 60 }
    let s : State := { withPeer 0 parked base with
      intrinsics := tableModify .ignition (fun x => { x with staged := some { value := 255, left := 1 } }) base.intrinsics }
    let t := after (.beatBoundary {}) s
    let u := after (.functionReceived 0 0 []) t
    [t, u, after (.statusReceived 0 1 (statusOf .run)) u].map (fun x => ((x.peer 0).presence, x.flash.reference))
      = [(.live, 1), (.live, 1), (.live, 0)] := by decide +kernel

/-- With a parking STATUS of 5 beats R62 and R160 differ, and the open constant decides (log 30). -/
theorem test_restarted_peer_with_young_status_is_open :
    let s := withPeer 0 { livePeer with status := some oldStatus, statusAge := 5, restarted := true } base
    s.mayRefer 0 = Config.restartedMayRefer := rfl

theorem witness_OldStatusLeavesTheReferenceSet :
    (let s := leaving .statusAgeExpiry
       { withPeer 0 { livePeer with status := some oldStatus, statusAge := 48 } base with
         flash := { base.flash with reference := 0 } }
     s.leftOver .statusAgeExpiry = true ∧ (0 : Station) ≠ s.stc.own ∧ (s.peer 0).statusAge = 48)
    ∧ (let s := withPeer 0 { livePeer with status := some oldStatus, statusAge := 47 } base
       let t := after (.beatBoundary {}) s
       s.timerRuns = true ∧ (t.peer 0).statusAge = 48 ∧ (∃ e ∈ t.peers, e.1 ≠ s.stc.own ∧ e.2.statusAge = 48))
    ∧ (let t := after (.beatBoundary {}) base
       base.timerRuns = true ∧ t.takenOf .ignition = 0 ∧ (∀ p, (t.peer p).presence = (base.peer p).presence)
         ∧ ∀ e ∈ t.peers, e.2.statusAge ≠ 48) := by decide +kernel

theorem witness_CountsRunOutAtTheirBoundary :
    (let s := leaving .settleCountComplete { base with flash := { base.flash with settle := 250 } }
     s.leftOver .settleCountComplete = true ∧ s.flash.settle = 250)
      ∧ (let s := leaving .levelLowered { base with budget := { base.budget with lc := 3, lowering := 64 } }
         s.leftOver .levelLowered = true ∧ s.works = true ∧ 64 ≤ s.budget.lowering)
      ∧ (let s := leaving .sagExit { inState .sag base with stc := { (inState .sag base).stc with sagExit := 8 } }
         s.leftOver .sagExit = true ∧ s.stc.state = .sag ∧ s.stc.sagExit = 8)
      ∧ (∀ k ∈ [248, 249],
          let s : State := { base with flash := { base.flash with settle := k } }
          s.timerRuns = true ∧ s.stc.state ≠ .configFault ∧ (after (.beatBoundary {}) s).flash.settle = k + 1)
      ∧ (inState .configFault base).timerRuns = true
      ∧ (∀ p ∈ [(5899, 7), (5900, 6), (5900, 7)],
          let s : State := { inState .sag base with stc := { (inState .sag base).stc with sagExit := p.2 }
                                                    itm := { base.itm with vs := p.1 } }
          s.works = true ∧ s.common = some com ∧ s.stc.state = .sag ∧ (∀ e ∈ s.txq.entries, e.restart = false)
            ∧ (after (.beatBoundary {}) s).stc.sagExit = if p = (5900, 6) then 7 else 0) := by decide +kernel

/-- The quiet count one short of the delay and at it; a boundary at which a resolved value changes; one that enters SAG. -/
theorem witness_ParkingStartsWithAParkedStatus_boundary :
    (∀ k ∈ [498, 499],
      let s : State := { base with stc := { base.stc with quiet := k } }
      s.timerRuns = true ∧ s.stc.state = .run ∧ s.common = some com ∧ s.stc.parkingPending = false
        ∧ (∀ e ∈ s.txq.entries, e.parkedStatus = false ∧ e.restart = false) ∧ s.origins.refreshCount < 31
        ∧ NewInstant s ∧ s.txq.entries = [] ∧ s.lif.listenOnly = false
        ∧ (∀ e ∈ s.chans, e.2.FarFromAlert)
        ∧ ((after (.beatBoundary {}) s).stc.quiet, (after (.beatBoundary {}) s).stc.parkingPending)
            = (k + 1, decide (k = 499)))
    ∧ (let s : State := { base with view := [waking], stc := { base.stc with quiet := 499 } }
       (∃ e ∈ s.view, resolvedIn (after (.beatBoundary {}) s).view e.function ≠ resolvedIn s.view e.function)
         ∧ (after (.beatBoundary {}) s).stc.quiet = 0)
    ∧ (let s : State := { base with itm := { base.itm with vs := 5599 }, stc := { base.stc with quiet := 499 } }
       (after (.beatBoundary {}) s).stc.state = .sag) := by decide +kernel

theorem witness_ParkingStartsWithAParkedStatus :
    let s := leaving .parkingStart { base with stc := { base.stc with quiet := 500 } }
    s.leftOver .parkingStart = true ∧ s.common = some com ∧ s.stc.state = .run ∧ s.stc.parkingPending = false
      ∧ com.parkDelay ≤ s.stc.quiet ∧ s.takenOf .ignition = 0
      ∧ (∀ e ∈ s.chans, e.2.test = none ∧ (e.2.prof.parkPermitted = false → e.2.applied = 0))
      ∧ s.txq.entries = [] := by decide +kernel

theorem witness_SamplePointTakesTheSamples :
    base.sampleDue = true ∧ (List.replicate 8 1250000).length = 8
      ∧ (∃ x, tableGet 0 base.itm.inputs = some x ∧ x.mode = .sender ∧ base.stc.state = .run) := by
  refine ⟨by decide +kernel, by decide, { Input.reset with mode := .sender }, by decide +kernel⟩

/-- A validity that changes at the sample makes one READING of every sender input, with its reading as it then is (R40). -/
theorem witness_SamplePointTakesTheSamples_early :
    let s := withInput 0 { Input.reset with mode := .sender, ring := [2047, 2047, 2047], run := 3 } base
    let t := fun uv => after (.samplePoint 6320 (List.replicate 8 uv) false) s
    s.sampleDue = true ∧ s.txq.entries = [] ∧ s.origins.entries.length ≤ 6
      ∧ ((t 1250000).input 0).valid ≠ (s.input 0).valid ∧ ((t 0).input 0).valid = (s.input 0).valid
      ∧ ((t 1250000).txq.entries.filter (fun e => e.body.kind == 8)).map Entry.body = [.reading [⟨0, true, 2047⟩]]
      ∧ (t 0).txq.entries.filter (fun e => e.body.kind == 8) = [] := by decide +kernel

def disagreeing : Input := { Input.reset with mode := .sender, run := 4 }
def analogOrigin : Origin :=
  Origin.build { function := 21, mode := .analog, first := 0, second := 0, closedValue := 0, openValue := 0,
                 comboOpenOpen := 0, comboClosedOpen := 0, comboOpenClosed := 0, comboClosedClosed := 0, offset := 0,
                 invert := false }
theorem witness_LeftSamplingEventsAreTaken :
    (∀ l ∈ [[0], [0, 3]],
      let s : State := { withInput 0 disagreeing base with clock := { base.clock with validityLeft := l } }
      s.timerRuns = true ∧ s.stc.state = .run ∧ (0 : InputNo) ∈ s.clock.validityLeft
        ∧ tableGet 0 s.itm.inputs = some disagreeing ∧ disagreeing.mode = .sender ∧ 4 ≤ disagreeing.run
        ∧ s.txq.entries = [] ∧ s.origins.entries.length ≤ 6 ∧ RepliesKeepPlaces s)
      ∧ (∀ l ∈ [[1], [1, 2]],
          let s : State := { base with clock := { base.clock with settledLeft := l } }
          s.works = true ∧ (1 : InputNo) ∈ s.clock.settledLeft ∧ NoStatusDue s) := by
  decide +kernel

/-- On a LISTEN-ONLY station the value of a switch settled at its instant goes to the own view at once (R8). -/
theorem witness_OriginEntriesOfferTheirChanges_listenOnly :
    let s : State := { withOrigins [switchOrigin] (withInput 1 { settledSwitch with settle := 3 } base) with
      lif := { base.lif with listenOnly := true }, view := [ViewEntry.fresh 20 none .off] }
    s.works = true ∧ s.lif.listenOnly = true
      ∧ (s.origins.entries.map (fun o => BitVec.ofNat 8 o.prof.function : Origin → Byte)).Nodup
      ∧ (∀ o ∈ s.origins.entries, o.present.isSome = false)
      ∧ (after (.switchSamplingInstant (List.replicate 8 0) false) s).view.map (fun e => (e.value, e.source))
          = [(255, some 1)] := by decide +kernel

/-- The four commands of the statement, each with a station whose one origin entry offers at it. -/
theorem witness_OriginEntriesOfferTheirChanges :
    (let s := withOrigins [switchOrigin]
       (withInput 1 { settledSwitch with settle := 3 } base)
     s.works = true ∧ s.txq.entries = [] ∧ s.origins.entries.length ≤ 6
       ∧ (after (.switchSamplingInstant (List.replicate 8 0) false) s).txq.entries.map Entry.body
           = [.function [(20, 255)]])
      ∧ (let s : State := withOrigins [analogOrigin]
           (withInput 0 { disagreeing with samples := 3 } base)
         s.sampleDue = true ∧ s.stc.state = .run
           ∧ ((after (.samplePoint 6320 (List.replicate 8 0) false) s).txq.entries.map Entry.body).head?
               = some (.function [(21, 0)]))
      ∧ (let s : State := withOrigins [switchOrigin]
           { withInput 1 settledSwitch base with clock := { base.clock with settledLeft := [1] } }
         s.works = true ∧ (1 : InputNo) ∈ s.clock.settledLeft ∧ (∀ j ∈ s.clock.settledLeft, j = 1)
           ∧ (after (.inputSettled 1) s).txq.entries.map Entry.body = [.function [(20, 255)]])
      ∧ (let s : State := withOrigins [analogOrigin]
           { withInput 0 { disagreeing with samples := 4, reading := 400 } base with
             clock := { base.clock with validityLeft := [0] } }
         s.timerRuns = true ∧ s.stc.state = .run ∧ (0 : InputNo) ∈ s.clock.validityLeft
           ∧ (∀ j ∈ s.clock.validityLeft, j = 0)
           ∧ ((after (.senderValidityChange 0) s).txq.entries.map Entry.body).head? = some (.function [(21, 25)])) := by
  decide +kernel

/-- Switch origins for functions 20 and 40 and an analog one for 30, at the instant of a switch sampling and of a sample
point. -/
def mixed : State :=
  let s := withInput 0 { disagreeing with samples := 3 } (withInput 1 { settledSwitch with settle := 3 } base)
  withOrigins [{ analogOrigin with prof := { analogOrigin.prof with function := 30 } }, switchOrigin,
               { switchOrigin with prof := { switchOrigin.prof with function := 40 } }]
    { s with clock := { s.clock with position := 10000, sinceSwitch := 5000 } }

def mixedSwitches : State := after (.switchSamplingInstant (List.replicate 8 0) false) mixed

/-- R5, R151: the pairs of both commands of an instant stand in one ascending order, in either order of the commands; between
the two the station meets the hypotheses of the clause about that. -/
theorem witness_OriginEntriesOfferTheirChanges_together :
    let switches : Instr := .switchSamplingInstant (List.replicate 8 0) false
    let sample : Instr := .samplePoint 6320 (List.replicate 8 0) false
    let s := mixedSwitches
    let functions := fun (s : State) => (s.txq.entries.filter (fun e => e.body.kind == 4)).map Entry.body
    (s.sampleDue = true ∧ s.stc.state = .run ∧ (after sample s).clock.instant = s.clock.instant
      ∧ s.txq.entries = [Entry.make (.function [(20, 255), (40, 255)])]
      ∧ s.offered = { before := [], offers := [.pair (20, 255), .pair (40, 255)], statusMade := false }
      ∧ ([(20, 255), (40, 255)] : List (Byte × Byte)).length + s.origins.entries.length ≤ 6
      ∧ (s.origins.entries.map (fun o => BitVec.ofNat 8 o.prof.function : Origin → Byte)).Nodup
      ∧ ∀ o ∈ s.origins.entries, o.present.isSome = true →
          originSettled (after sample s).itm.inputs o.prof = true)
    ∧ functions (after sample s) = [.function [(20, 255), (30, 0), (40, 255)]]
    ∧ functions (after switches (after sample mixed)) = [.function [(20, 255), (30, 0), (40, 255)]] := by decide +kernel

theorem witness_SwitchesAreSampledTogether :
    base.works = true ∧ (List.replicate 8 0).length = 8
      ∧ (∃ x, tableGet 1 base.itm.inputs = some x ∧ x.mode = .switchToEarth)
      ∧ (∀ s ∈ [inState .parked base, { base with stc := { base.stc with parkingPending := true } }],
          let s := withInput 1 { settledSwitch with accepted := false, history := [true, true, true] } s
          let t := after (.switchSamplingInstant (List.replicate 8 0) false) s
          s.works = true ∧ (t.input 1).accepted ≠ (s.input 1).accepted
            ∧ s.txq.entries.length + s.origins.entries.length < 8
            ∧ (s.stc.state = .parked ∨ s.stc.parkingPending = true)
            ∧ (t.txq.entries.map Entry.body).any (fun b => match b with | .status x => x.state == .run | _ => false)
                = true) := by
  refine ⟨by decide +kernel, by decide, ⟨{ Input.reset with mode := .switchToEarth }, by decide +kernel⟩, by decide +kernel⟩

theorem witness_CurrentsAreReadInTheOnTime :
    (∀ r ∈ [0, 254, 255],
      let s := withChan 0 lit base
      s.works = true ∧ s.clock.position + (1000 - s.clock.sincePeriod) < 20000
        ∧ s.clock.sincePeriod < 1000
        ∧ (List.replicate 12 (Sense.mk r r)).length = 12 ∧ s.chan 0 = some lit ∧ lit.driveable = true
        ∧ 0 < lit.applied ∧ (List.replicate 12 (Sense.mk r r))[(0 : ChannelNo).val]? = some (Sense.mk r r))
      ∧ (let c : Channel := { turning with driven := 1023, peak := 40 }
         let s := withChan 1 c base
         s.works = true ∧ s.chan 1 = some c ∧ c.prof.kind = .fan ∧ c.driveable = true ∧ 0 < c.driven)
      ∧ (let s := withChan 0 lit base
         let t := after (.pulsePeriod ⟨List.replicate 12 ⟨0, 0⟩, false⟩) s
         s.common = some com ∧ t.works = true ∧ s.chan 3 = none ∧ t.chan 0 ≠ none) := by
  decide +kernel

/-- R176: on NEGATIVE earth a channel in its on-time sources, out of it sinks, and a terminal without a record sinks;
POSITIVE is the other way round. -/
theorem test_terminal_levels :
    ∀ q ∈ [(Polarity.negative, TerminalLevel.sources, TerminalLevel.sinks),
           (.positive, .sinks, .sources)],
      let s : State := { withChan 0 lit base with common := some { com with polarity := q.1 } }
      ((s.terminalDrive 0).level true, (s.terminalDrive 0).level false, (s.terminalDrive 3).level true) = (q.2.1, q.2.2, q.2.2) := by
  decide +kernel

def alertEntry : Entry := Entry.make (.alert .lampOutLeft 1)
def functionEntry : Entry := Entry.make (.function [(5, 255)])
def statusEntry : Entry := Entry.make (.status (statusOf .run))
def flying (e : Entry) : Entry := { e with inFlight := true }

theorem witness_AttemptSendsTheLowestKind :
    (let s := withQueue [statusEntry, functionEntry] base
     s.timerRuns = true ∧ s.lif.line = .idle ∧ s.lif.listenOnly = false
       ∧ s.txq.entries = [statusEntry] ++ functionEntry :: []
       ∧ (functionEntry.inFlight = false ∧ s.stc.state = .run)
       ∧ (∀ x ∈ [statusEntry], functionEntry.body.kind < x.body.kind))
      ∧ ({ base with lif := { base.lif with listenOnly := true } } : State).lif.listenOnly = true
      ∧ (inState .parked base).stc.state = .parked ∧ base.txq.entries = []
      ∧ (withLine .stuck base).lif.line ≠ .idle := by decide +kernel

theorem witness_FailedAttemptsReturnToWaiting :
    ∀ k ∈ [0, 14],
      let e : Entry := { flying functionEntry with attempts := k }
      let s := withLine .transmitting (withQueue [statusEntry, e, functionEntry] base)
      s.attempting = true ∧ s.txq.entries = [statusEntry] ++ e :: [functionEntry] ∧ e.inFlight = true
        ∧ (∀ x ∈ [statusEntry] ++ [functionEntry], x.inFlight = false) ∧ e.attempts + 1 < 16 := by decide +kernel

theorem witness_LeavingEntriesTakeEffect :
    (∀ e ∈ [flying functionEntry, flying alertEntry,
            { flying (Entry.make (.reply 0 7 .done [])) with restart := true }],
      let s := withLine .transmitting (withQueue [statusEntry, e] base)
      s.attempting = true ∧ s.txq.entries = [statusEntry] ++ e :: [] ∧ e.inFlight = true
        ∧ (∀ x ∈ [statusEntry], x.inFlight = false) ∧ NoStatusDue s)
      ∧ (let e : Entry := { flying functionEntry with attempts := 15 }
         let s := withLine .transmitting (withQueue [e] base)
         s.attempting = true ∧ s.txq.entries = [] ++ e :: [] ∧ e.inFlight = true ∧ 16 ≤ e.attempts + 1) := by
  decide +kernel

theorem witness_ParkingStatusParksTheStation :
    ∀ l ∈ [[], [alertEntry]],
      let e : Entry := { flying (Entry.make (.status (statusOf .parked))) with attempts := 15 }
      let b : State := { base with stc := { base.stc with parkingPending := true } }
      let s := withLine .transmitting (withQueue ([] ++ e :: l) b)
      s.attempting = true ∧ s.stc.state = .run ∧ s.txq.entries = [] ++ e :: l ∧ e.inFlight = true
        ∧ e.parkedStatus = true ∧ e.restart = false ∧ ([] : List Entry).length + l.length < 8 ∧ s.sched.due = false
        ∧ s.clock.left = [] ∧ (∀ x ∈ s.chans, x.2.changeDue = false) ∧ 16 ≤ e.attempts + 1
        ∧ s.stc.parkingPending = true := by decide +kernel

theorem witness_LineStateFollowsTheWire :
    (∀ k ∈ [0, 549, 550], let s : State := { base with lif := { base.lif with recessive := k } }
        s.timerRuns = true ∧ s.lif.line = .idle)
      ∧ (withLine .receiving base).timerRuns = true ∧ (withLine .receiving base).lif.line = .receiving
      ∧ (withLine .stuck base).lif.line = .stuck ∧ (withLine .stuck base).timerRuns = true := by decide +kernel

theorem witness_DiscardedFrameIsCounted :
    base.canHear = true
      ∧ judge { chars := [0x0A, 0x02, 0x01, 0x01, 0x48], ending := .complete } = .fault .check
      ∧ judge { chars := [0x0A, 0x0D], ending := .dominantStop } = .fault .malformed
      ∧ judge { chars := [0x0A, 0x0C], ending := .idleGap } = .fault .framing
      ∧ judge { chars := [0x0A, 0x02], ending := .dominantStop, dominant := 700 } = .fault .framing
      ∧ (0x48#8 ≠ crc8 [0x0A, 0x02, 0x01, 0x01]) := by decide +kernel

theorem witness_HeardBulletinReachesThePeerTable :
    HeardFrom base.stc.own 0 1 none (.serviceReplyReceived 0 ⟨1, 9⟩)
      ∧ HeardFrom base.stc.own 0 1 (some (statusOf .parked)) (.statusReceived 0 1 (statusOf .parked))
      ∧ HeardFrom base.stc.own 0 1 none (.serviceQueryOtherTarget 0 1 2)
      ∧ (0 : Station) ≠ base.stc.own ∧ base.canHear = true
      ∧ tableGet 0 (withPeer 0 livePeer base).peers = some livePeer := by
  refine ⟨⟨rfl, rfl, rfl⟩, ⟨rfl, rfl, rfl⟩, ⟨rfl, rfl, rfl, by decide⟩, by decide +kernel⟩

theorem witness_OwnNumberMakesListenOnly :
    HeardFrom base.stc.own base.stc.own 1 none (.functionReceived 1 1 [(5, 255)])
      ∧ base.canHear = true ∧ base.clock.formDue = false ∧ NoStatusDue base ∧ RepliesKeepPlaces base
      ∧ ({ base with lif := { base.lif with listenOnly := true } } : State).lif.listenOnly = true
      ∧ base.txq.entries.flatMap Entry.pairs = []
      ∧ (base.lif.listenOnly = false
        ∧ (((withQueue [functionEntry] base).txq.entries.flatMap Entry.pairs).map Prod.fst).Nodup
        ∧ (withQueue [functionEntry] base).txq.entries.flatMap Entry.pairs ≠ []) := by
  refine ⟨⟨by decide +kernel, rfl, rfl⟩, by decide +kernel⟩

theorem witness_ReceivedPairsUpdateTheView :
    base.canHear = true ∧ (0 : Station) ≠ base.stc.own
      ∧ (([(5, 255), (10, 7)] : List (Byte × Byte)).map Prod.fst).Nodup
      ∧ (∃ e, base.view.find? (fun x => x.function == (10#8).toNat) = some e ∧ e.filter = none
          ∧ (9#8).toNat ≠ e.resolved)
      ∧ (∃ m ∈ base.maps, m.channel = (0 : ChannelNo).val ∧ m.function = (10#8).toNat)
      ∧ base.chan 0 = some lamp
      ∧ ((inState .parked base).canHear = true ∧ (inState .parked base).txq.entries.length < 8
        ∧ (inState .parked base).stc.state = .parked) := by
  refine ⟨by decide +kernel, by decide +kernel, by decide +kernel, ⟨ViewEntry.fresh 10 none .off, by decide +kernel⟩,
    by decide +kernel⟩

theorem witness_ReadingsAndAlertsReachTheirHolders :
    base.canHear = true ∧ (0 : Station) ≠ base.stc.own
      ∧ (([⟨3, true, 700⟩] : List ReadingItem).map ReadingItem.input).Nodup := by decide +kernel

theorem witness_ReferenceStatusAligns :
    (base.canHear = true ∧ (0 : Station) ≠ base.stc.own
      ∧ (after (.statusReceived 0 1 (statusOf .run)) base).flash.reference = 0
      ∧ (after (.statusReceived 0 1 (statusOf .run)) base).clock.b = 7)
      ∧ (let s : State := { base with flash := { base.flash with left := { base.flash.left with act := true } } }
         s.canHear = true ∧ (0 : Station) ≠ s.stc.own ∧ s.flash.left.act = true ∧ (∃ e ∈ s.chans, e.2.switched = true)
           ∧ (after (.statusReceived 0 1 (statusOf .run)) s).flash.pendingAlign.map PendingAlign.bRef = some 7) := by
  decide +kernel

theorem asked_base (q : Query) (h : q.sender ≠ 1) : Asked base q :=
  ⟨by decide +kernel, h, by decide +kernel⟩

/-- A query to a PARKED station, or to one whose parking is pending, leaves a STATUS carrying RUN before its reply (R170,
R171). -/
theorem test_query_leaves_a_status :
    ∀ s ∈ [inState .parked base, { base with stc := { base.stc with parkingPending := true } }],
      (after (.lineCounters (query 0 0)) s).txq.entries.map (fun e => match e.body with
        | .status x => (12, x.state == .run)
        | b => (b.kind, false)) = [(12, true), (24, false)] := by decide +kernel

/-- A station in CONFIG FAULT still reports what its peers bring: LAMP WARNING and the reference (R62, R116, TABLE 60). -/
theorem test_station_report_in_config_fault :
    (after (.stationReport (query 0 0)) (inState .configFault
        (withPeer 0 { livePeer with status := some { oldStatus with faults := 1 }, statusAge := 5 } base))).txq.entries.map
      (fun e => match e.body with
        | .reply _ _ _ data => (data.getD 4 0, data.getD 5 9)
        | _ => (0, 9)) = [(0x08, 0)] := by decide +kernel

theorem witness_ReportsCarryTheirFigures :
    Asked base (query 0 0) ∧ base.stc.state ≠ .configFault
      ∧ base.chans.find? (fun e => e.1.val == (query 0 0).arg1.toNat) = some (0, lamp)
      ∧ (query 0 0).arg1.toNat = (0 : Station).val ∧ (0 : Station) ≠ base.stc.own
      ∧ tableGet 0 (withPeer 0 { livePeer with status := some oldStatus } base).peers
          = some { livePeer with status := some oldStatus } :=
  ⟨asked_base _ (by decide), by decide +kernel⟩

theorem witness_QueriesOutOfRangeAnswerNoSuch :
    Asked base (query 11 128) ∧ ((0#8 : Byte) = 0#8 ∧ 7 < (8#8 : Byte).toNat)
      ∧ (inState .configFault base).stc.state = .configFault
      ∧ (∀ e ∈ base.chans, e.1.val ≠ (query 11 128).arg1.toNat)
      ∧ (7 < (query 8 0).arg1.toNat ∧ (query 1 0).arg1.toNat = base.stc.own.val)
      ∧ (query 11 128).arg2.toNat % 128 = 0 :=
  ⟨asked_base _ (by decide), by decide +kernel⟩

theorem witness_TestChannelSetsTheOverride :
    (Asked base (query 0 255) ∧ base.works = true ∧ base.chan 0 = some lamp
      ∧ (query 0 255).arg1.toNat = (0 : ChannelNo).val ∧ (query 0 255).arg2.toNat % 128 ≠ 0 ∧ base.clock.left = []
      ∧ lamp.changeDue = false ∧ base.takenOf .ignition = 0 ∧ lamp.protection = .normal)
      ∧ lamp.NotYetAt base.clock.instant
      ∧ ((after (.testChannel (query 0 127)) base).chan 0).map Channel.composed = some lamp.composed :=
  ⟨⟨asked_base _ (by decide), by decide +kernel⟩, base_notYet _ _ rfl, by decide +kernel⟩

theorem witness_ClearLatchReleasesAtOnce :
    (Asked base (query 0 0) ∧ base.works = true ∧ base.chan 0 = some lamp
        ∧ (query 0 0).arg1.toNat = (0 : ChannelNo).val ∧ lamp.protection ≠ .latched)
      ∧ (let c : Channel := { lamp with protection := .latched, trips := 3, target := 1023, composed := 255 }
         Asked (withChan 0 c base) (query 0 0) ∧ (withChan 0 c base).works = true
           ∧ (withChan 0 c base).chan 0 = some c ∧ c.protection = .latched) :=
  ⟨⟨asked_base _ (by decide), by decide +kernel⟩, ⟨by decide +kernel, by decide, by decide +kernel⟩, by decide +kernel⟩

theorem witness_RestartFollowsItsReply : Asked base (query 0 0) ∧ base.works = true :=
  ⟨asked_base _ (by decide), by decide +kernel⟩

theorem witness_DutyFollowsTheStages :
    (∀ v ∈ [0, 1, 254, 255], ({ lamp with composed := v } : Channel).prof.kind = .lamp)
      ∧ flasher.switched = true ∧ flasher.composed = 0 := by decide +kernel

theorem witness_NeedleClosesOnItsPosition : ∀ p ∈ [0, 1000], ∀ d ∈ [0, 1000], p ≤ 1000 ∧ d ≤ 1000 := by decide

def gauged : Channel := Channel.build { load .gauge with action := .off }
def sourced (e : CacheEntry) (x : Presence) : State :=
  { withPeer 0 { livePeer with presence := x } (withChan 1 { gauged with taken := 255, d := 100 } base) with cache := [e] }

/-- A local source, and a remote one in every class of TABLE 30: FRESH at age 46, HELD at 47, STALE and PARKED, LOST at 249,
when invalid, and when ABSENT. The class shows in p: the curve's 280 for 820, the kept 0 and d, or 0. -/
theorem witness_GaugesFollowTheirSources :
    (base.timerRuns = true ∧ (∀ e ∈ base.txq.entries, e.restart = false) ∧ gauged.prof.gauge.station = base.stc.own.val
      ∧ (withChan 1 gauged base).chan 1 = some gauged)
    ∧ ∀ q ∈ [((46, true, Presence.live), (280, 145)), ((47, true, .live), (0, 100)), ((9, true, .stale), (0, 100)),
             ((255, true, .parked), (0, 100)), ((249, true, .stale), (0, 75)), ((9, false, .live), (0, 75)),
             ((9, true, .absent), (0, 75))],
        let e : CacheEntry := { station := 0, input := 3, value := 820, valid := q.1.2.1, age := q.1.1 }
        let c : Channel := Channel.build { load .gauge with action := .off, gauge := { needle with station := 0, input := 3 } }
        let s := withChan 1 { c with taken := 255, d := 100 } (sourced e q.1.2.2)
        s.timerRuns = true ∧ (s.chan 1).map Channel.prof = some c.prof ∧ (∀ e ∈ s.txq.entries, e.restart = false)
          ∧ ((after (.beatBoundary {}) s).chan 1).map (fun x => (x.composed, x.p, x.d)) = some (255, q.2) := by
  decide +kernel

/-- R52, R98: a GAUGE tested OFF at the instant of its boundary and after it is formed again from what the boundary found:
p at 0, and d from 100 to 75, not from the 145 that the boundary had made of it. -/
theorem test_gauge_formed_again :
    let s := withInput 0 { Input.reset with mode := .sender, valid := true, reading := 820 }
      (withChan 1 { gauged with taken := 255, d := 100 } { base with
        clock := { base.clock with position := 20000 }
        lif := { base.lif with line := .receiving, capture := { base.lif.capture with elapsed := 3500 } } })
    let t := after (.beatBoundary {}) s
    ((t.chan 1).map (fun x => (x.composed, x.p, x.d)),
      ((after (.testChannel (query 1 1)) t).chan 1).map (fun x => (x.composed, x.p, x.d)))
      = (some (255, 280, 145), some (0, 0, 75)) := by decide +kernel

/-- The worked curve of Chapter 5: 1500 between the points (1200, 250) and (2000, 500) gives 343. -/
theorem test_worked_curve : curveAt 1500 [(0, 0), (1200, 250), (2000, 500)] = 343 := by decide

theorem witness_CurveGivesThePosition :
    ([(400, 1000), (1000, 400), (2000, 0)] : List (Nat × Nat)).Pairwise (fun a b => a.1 < b.1)
      ∧ ∀ x ∈ [(0, 1000), (400, 1000), (401, 999), (1000, 400), (2000, 0), (4095, 0)],
          curveAt x.1 [(400, 1000), (1000, 400), (2000, 0)] = x.2 := by decide

theorem witness_BudgetJudgesTheLevel :
    (∀ st ∈ [StationState.run, .parked],
      (inState st base).works = true ∧ (inState st base).common = some com ∧ ({} : BoundaryOrder).leave = [])
      ∧ com.sagThreshold ≤ base.itm.vs ∧ (∀ e ∈ base.txq.entries, e.restart = false)
      ∧ (after (.beatBoundary {}) (inState .sag base)).stc.state = .sag
      ∧ (let s : State := { base with budget := { base.budget with lc := 2, lowering := 63 } }
         s.works = true ∧ s.common = some com
           ∧ (after (.beatBoundary {}) s).budget.lc = 1 ∧ (after (.beatBoundary {}) s).budget.lowering = 0)
      ∧ (let s := withPeer 0 { livePeer with status := some { oldStatus with d2 := 7 } }
           (withChan 0 { lamp with taken := 9 } (withChan 1 { fan with taken := 9, prof := { fan.prof with nominal := 41 } } base))
         let t := after (.beatBoundary {}) s
         (t.budget.d2, [carTotal t 0, carTotal t 1, carTotal t 2, carTotal t 3]) = (41, [1, 2, 50, 51])) := by
  decide +kernel

theorem witness_WrittenBulletinIsReadBack :
    ∀ body ∈ [Body.alert .lampOutLeft 1, .function [(1, 0), (2, 0), (3, 0), (4, 0), (5, 0), (255, 0)],
              .reading [⟨7, true, 4095⟩], .status (statusOf .sag), .query 7 255 255 255,
              .reply 7 255 .noSuch (List.replicate 9 255)],
      (Bulletin.mk 7 15 body).wellFormed = true := by decide +kernel

/-- The invariants hold of the machine right after a reset, and a step from it answers a next state. -/
theorem witness_EveryStepKeepsTheQueue : QueueInv State.reset ∧ ∃ t, step State.reset = .next t := by
  refine ⟨?_, _, rfl⟩
  unfold QueueInv QueueShape
  decide +kernel

theorem witness_EveryStepKeepsTheEffectiveLevel : LevelInv State.reset ∧ ∃ t, step State.reset = .next t := by
  refine ⟨⟨by decide +kernel, by decide +kernel, ?_, by decide +kernel⟩, _, rfl⟩
  intro e he x hx
  have h : ∀ e ∈ State.reset.peers, e.2.status = none := by decide +kernel
  rw [h e he] at hx
  exact nomatch hx

theorem witness_EveryStepKeepsChannelsInRange :
    ChannelsInv { base with pending := [.beatBoundary {}] }
      ∧ ∃ t, step { base with pending := [.beatBoundary {}] } = .next t := by
  refine ⟨?_, _, rfl⟩
  intro e he
  have h : ∀ e ∈ base.chans, (e.2.base = none ∧ e.2.needle = none) ∧ (e.2.applied ≤ 1023 ∧ e.2.target ≤ 1023
      ∧ e.2.p ≤ 1000 ∧ e.2.d ≤ 1000 ∧ e.2.prof.kind ≠ .gauge ∧ (e.2.driveable = false → e.2.applied = 0)
      ∧ e.2.base = none ∧ e.2.needle = none) := by
    decide +kernel
  exact ⟨lamp_sound _ (h e he).2, base_noted _ _ (h e he).1⟩

theorem witness_EveryStepKeepsShedChannelsShed :
    WholeQueue { base with pending := [.beatBoundary {}] } ∧ ShedInv { base with pending := [.beatBoundary {}] }
      ∧ (let c : Channel := { lamp with prof := { lamp.prof with shedClass := 0 } }
         c.prof.shedClass = 0 ∧ (c.prof.parkPermitted = true ∨ (false = false))) := by
  refine ⟨?_, ⟨rfl, ?_⟩, by decide +kernel⟩
  · intro c hc
    have : c = .beatBoundary {} := by simpa using hc
    subst this
    rfl
  · intro e he
    have h : ∀ e ∈ base.chans, e.2.changeDue = false ∧ e.2.shed 0 = false := by decide +kernel
    refine ⟨(h e he).1, ?_⟩
    intro hs
    have := (h e he).2
    exact absurd (hs.symm.trans this) (by decide)

end Sys2Proof.Tests
end

/-! A READING heard from another station reaches the remote reading cache, an ALERT the flash unit and the alert-seen
flag (R75, R90, R115). First what hearing a frame leaves as it was, then what each of the two holders does. -/

namespace Sys2Proof.Machine

/-! ## Hearing a frame -/

section
variable (s : State)

@[simp] theorem hearing_common : s.hearing.common = s.common := by
  unfold State.hearing State.runGap State.beginReceiving; split <;> simp
@[simp] theorem hearing_own : s.hearing.stc.own = s.stc.own := by
  unfold State.hearing State.runGap State.beginReceiving; split <;> simp
@[simp] theorem hearing_b : s.hearing.clock.b = s.clock.b := by
  unfold State.hearing State.runGap State.beginReceiving; split <;> simp
@[simp] theorem hearing_flash : s.hearing.flash = s.flash := by
  unfold State.hearing State.runGap State.beginReceiving; split <;> simp
@[simp] theorem hearing_itm : s.hearing.itm = s.itm := by
  unfold State.hearing State.runGap State.beginReceiving; split <;> simp
@[simp] theorem hearing_view : s.hearing.view = s.view := by
  unfold State.hearing State.runGap State.beginReceiving; split <;> simp
@[simp] theorem hearing_maps : s.hearing.maps = s.maps := by
  unfold State.hearing State.runGap State.beginReceiving; split <;> simp
@[simp] theorem hearing_cache : s.hearing.cache = s.cache := by
  unfold State.hearing State.runGap State.beginReceiving; split <;> simp
@[simp] theorem hearing_alertSeen : s.hearing.alertSeen = s.alertSeen := by
  unfold State.hearing State.runGap State.beginReceiving; split <;> simp

variable (n : Nat)

@[simp] theorem hearFrame_common : (s.hearFrame n).common = s.common := by simp [State.hearFrame, State.runFrame]
@[simp] theorem hearFrame_own : (s.hearFrame n).stc.own = s.stc.own := by simp [State.hearFrame, State.runFrame]
@[simp] theorem hearFrame_b : (s.hearFrame n).clock.b = s.clock.b := by simp [State.hearFrame, State.runFrame]
@[simp] theorem hearFrame_flash : (s.hearFrame n).flash = s.flash := by simp [State.hearFrame, State.runFrame]
@[simp] theorem hearFrame_itm : (s.hearFrame n).itm = s.itm := by simp [State.hearFrame, State.runFrame]
@[simp] theorem hearFrame_view : (s.hearFrame n).view = s.view := by simp [State.hearFrame, State.runFrame]
@[simp] theorem hearFrame_maps : (s.hearFrame n).maps = s.maps := by simp [State.hearFrame, State.runFrame]
@[simp] theorem hearFrame_cache : (s.hearFrame n).cache = s.cache := by simp [State.hearFrame, State.runFrame]
@[simp] theorem hearFrame_alertSeen : (s.hearFrame n).alertSeen = s.alertSeen := by
  simp [State.hearFrame, State.runFrame]

end

/-- A bulletin from another station is heard to its end, reaches the Peer Table, and then what acts on its kind
(R146, R156). -/
theorem deliver_of_ne_own {s : State} {p : Station} (hc : s.canHear = true) (hp : p ≠ s.stc.own) (n : Nat)
    (seq : BitVec 4) (status : Option StatusBody) (act : State → State) :
    s.deliver n p seq status act = (act ((s.hearFrame n).hearPeer p seq status)).finish s := by
  simp [State.deliver, hc, hp]

/-! ## The remote reading cache -/

/-- The READING pair of station `p` is for this entry. -/
def CacheEntry.named (p : Station) (e : CacheEntry) (r : ReadingItem) : Bool :=
  decide (e.station = p.val) && decide (e.input = r.input.val)

/-- The entry as a READING pair leaves it (R90). -/
def CacheEntry.taking (e : CacheEntry) (r : ReadingItem) : CacheEntry :=
  { e with value := r.reading.toNat, valid := r.valid, age := 0 }

/-- The entry after a READING pair: the pair is for it, or it stays. -/
def CacheEntry.hears (p : Station) (e : CacheEntry) (r : ReadingItem) : CacheEntry :=
  if e.named p r = true then e.taking r else e

/-- A READING pair works on each entry by itself. -/
theorem updateCache_eq_map (p : Station) (r : ReadingItem) (cache : List CacheEntry) :
    updateCache p r cache = cache.map (fun e => e.hears p r) := by
  simp [updateCache, CacheEntry.hears, CacheEntry.named, CacheEntry.taking]

/-- The pairs of a READING work on each entry by itself. -/
theorem foldl_updateCache_eq_map (p : Station) (items : List ReadingItem) (cache : List CacheEntry) :
    items.foldl (fun c r => updateCache p r c) cache = cache.map (fun e => items.foldl (CacheEntry.hears p) e) := by
  induction items generalizing cache with
  | nil => simp
  | cons r rest ih => rw [List.foldl_cons, ih, updateCache_eq_map, List.map_map]; rfl

/-- An entry takes no pair of a READING that does not name it. -/
theorem foldl_hears_of_unnamed {p : Station} {e : CacheEntry} {items : List ReadingItem}
    (h : ∀ r ∈ items, e.named p r = false) : items.foldl (CacheEntry.hears p) e = e := by
  induction items with
  | nil => rfl
  | cons r rest ih =>
    have hr : e.hears p r = e := by simp [CacheEntry.hears, h r List.mem_cons_self]
    rw [List.foldl_cons, hr, ih fun x hx => h x (List.mem_cons_of_mem r hx)]

/-- Where a READING carries an input once, an entry takes the pair that names it, and stays without one: a pair after
the one taken carries another input. -/
theorem foldl_hears_eq_find {p : Station} {items : List ReadingItem} (hd : (items.map ReadingItem.input).Nodup)
    (e : CacheEntry) : items.foldl (CacheEntry.hears p) e = (items.find? (e.named p)).elim e e.taking := by
  induction items with
  | nil => rfl
  | cons r rest ih =>
    obtain ⟨hr, hrest⟩ := List.nodup_cons.mp hd
    cases hn : e.named p r with
    | false => simpa [CacheEntry.hears, hn] using ih hrest
    | true =>
      have hi : e.input = r.input.val := by simp_all [CacheEntry.named]
      have later : ∀ x ∈ rest, (e.taking r).named p x = false := by
        intro x hx
        have hne : r.input ≠ x.input := fun h => hr (h ▸ List.mem_map_of_mem hx)
        simp [CacheEntry.named, CacheEntry.taking, hi, Fin.val_ne_of_ne hne]
      simpa [CacheEntry.hears, hn] using foldl_hears_of_unnamed later

/-! ## A received ALERT -/

section
variable (s : State) (code : AlertCode)

/-- A code that reports a side marks it failed while it is active; the others leave the flash unit as it is (R75). -/
theorem hearAlert_flash : (s.hearAlert code).flash = (alertSide code).elim s.flash fun sd =>
    s.flash.modifySide sd fun x => { x with failed := x.failed || (s.flash.side sd).act } := by
  unfold State.hearAlert
  cases alertSide code with
  | none => rfl
  | some sd =>
    cases h : (s.flash.side sd).act
    · cases sd <;> simp [h, FlashUnit.modifySide]
    · simp [h]

/-- Code 1 marks the left side failed while it is active, and no other code does (R75). -/
theorem hearAlert_left : (s.hearAlert code).flash.left = { s.flash.left with
    failed := s.flash.left.failed || (decide (code = .lampOutLeft) && s.flash.left.act) } := by
  cases code <;> simp [hearAlert_flash, alertSide, FlashUnit.modifySide, FlashUnit.side]

/-- Code 2 marks the right side failed while it is active, and no other code does (R75). -/
theorem hearAlert_right : (s.hearAlert code).flash.right = { s.flash.right with
    failed := s.flash.right.failed || (decide (code = .lampOutRight) && s.flash.right.act) } := by
  cases code <;> simp [hearAlert_flash, alertSide, FlashUnit.modifySide, FlashUnit.side]

/-- A code that reports a side sets alert-seen while the side is active, the others in any case (R75, R115). -/
theorem hearAlert_alertSeen : (s.hearAlert code).alertSeen
    = (s.alertSeen || (alertSide code).elim true fun sd => (s.flash.side sd).act) := by
  unfold State.hearAlert
  cases alertSide code with
  | none => simp
  | some sd => cases h : (s.flash.side sd).act <;> simp [h]

/-- A received ALERT changes the flash unit and the alert-seen flag alone. -/
theorem hearAlert_frame : s.hearAlert code
    = { s with flash := (s.hearAlert code).flash, alertSeen := (s.hearAlert code).alertSeen } := by
  unfold State.hearAlert; (repeat' split) <;> rfl

@[simp] theorem hearAlert_common : (s.hearAlert code).common = s.common := by rw [hearAlert_frame]
@[simp] theorem hearAlert_stc : (s.hearAlert code).stc = s.stc := by rw [hearAlert_frame]
@[simp] theorem hearAlert_clock : (s.hearAlert code).clock = s.clock := by rw [hearAlert_frame]
@[simp] theorem hearAlert_itm : (s.hearAlert code).itm = s.itm := by rw [hearAlert_frame]
@[simp] theorem hearAlert_view : (s.hearAlert code).view = s.view := by rw [hearAlert_frame]
@[simp] theorem hearAlert_maps : (s.hearAlert code).maps = s.maps := by rw [hearAlert_frame]
@[simp] theorem hearAlert_cache : (s.hearAlert code).cache = s.cache := by rw [hearAlert_frame]

end

/-! ## The statement -/

/-- A READING from another station: once the Peer Table has heard it, its pairs update the cache in body order (R90,
R156). -/
theorem exec_readingReceived {s : State} {p : Station} (hc : s.canHear = true) (hp : p ≠ s.stc.own) (seq : BitVec 4)
    (items : List ReadingItem) :
    exec (.readingReceived p seq items) s
      = .next (State.finish
          (let t := (s.hearFrame (3 + 2 * items.length)).hearPeer p seq none
           { t with cache := items.foldl (fun c r => updateCache p r c) t.cache }) s) :=
  congrArg _ (deliver_of_ne_own hc hp _ seq none _)

/-- An ALERT from another station: once the Peer Table has heard it, its code acts (R75, R115, R156). -/
theorem exec_alertReceived {s : State} {p : Station} (hc : s.canHear = true) (hp : p ≠ s.stc.own) (seq : BitVec 4)
    (code : AlertCode) (subject : Byte) :
    exec (.alertReceived p seq code subject) s
      = .next ((((s.hearFrame 5).hearPeer p seq none).hearAlert code).finish s) :=
  congrArg _ (deliver_of_ne_own hc hp _ seq none _)

/-- Settles O43: a READING by what its pairs make of each cache entry, an ALERT by its code. -/
theorem readingsAndAlertsReachTheirHolders : Obligations.ReadingsAndAlertsReachTheirHolders := by
  constructor
  · intro s p seq items hc hp hd
    refine ⟨_, exec_readingReceived hc hp seq items, ?_, by simp, by simp, by simp, by simp, by simp [SameProfile]⟩
    simp only [finish_cache, hearPeer_cache, hearFrame_cache, foldl_updateCache_eq_map]
    refine List.map_congr_left fun e _ => (foldl_hears_eq_find hd e).trans ?_
    unfold CacheEntry.named CacheEntry.taking
    cases items.find? _ <;> rfl
  · intro s p seq code subject hc hp
    refine ⟨_, exec_alertReceived hc hp seq code subject, by simp [hearAlert_left], by simp [hearAlert_right], ?_,
      by simp, by simp, by simp, by simp, by simp [SameProfile]⟩
    cases code <;> simp [hearAlert_alertSeen, alertSide, FlashUnit.side]

end Sys2Proof.Machine

/-! The drive figures: the duty that a LAMP, FAN or switched kind draws from its composed value (R83 to R87), and the
needle of a GAUGE (R96, R97). First what each stage gives and where a damping step may go, then the statements. -/

namespace Sys2Proof.Machine

/-! ## Damping -/

/-- Damping from d toward p is the mirror image of damping from p toward d: the quotient truncates toward zero. -/
theorem dampStep_swap (k p d : Nat) : dampStep k p d = -dampStep k d p := by
  have hq : Int.tdiv ((p : Int) - d) (2 ^ k) = -Int.tdiv ((d : Int) - p) (2 ^ k) := by
    rw [← Int.neg_tdiv, Int.neg_sub]
  simp only [dampStep, hq]
  split_ifs <;> omega

/-- A step toward a position not below goes up, and not past it. -/
theorem dampStep_up {k p d : Nat} (h : d ≤ p) : 0 ≤ dampStep k p d ∧ dampStep k p d ≤ (p : Int) - d := by
  have hdist : (0 : Int) ≤ (p : Int) - d := by omega
  have hlow : 0 ≤ Int.tdiv ((p : Int) - d) (2 ^ k) := Int.tdiv_nonneg hdist (by positivity)
  have hhigh : Int.tdiv ((p : Int) - d) (2 ^ k) ≤ (p : Int) - d := Int.tdiv_le_self _ hdist
  simp only [dampStep]
  split_ifs <;> omega

/-- A step toward a position not above goes down, and not past it. -/
theorem dampStep_down {k p d : Nat} (h : p ≤ d) : (p : Int) - d ≤ dampStep k p d ∧ dampStep k p d ≤ 0 := by
  have hup := dampStep_up (k := k) h
  rw [dampStep_swap]
  omega

/-- A needle that is not on its position moves: a quotient of 0 is forced to 1 in size. -/
theorem dampStep_ne_zero {k p d : Nat} (h : d ≠ p) : dampStep k p d ≠ 0 := by
  simp only [dampStep]
  split_ifs <;> omega

/-- With shift 0 the step is the whole distance. -/
theorem dampStep_shift_zero (p d : Nat) : dampStep 0 p d = (p : Int) - d := by
  simp only [dampStep, pow_zero, Int.tdiv_one]
  split_ifs <;> omega

/-- The displayed position is the sum of the old one and the step, which does not carry it below 0. -/
theorem damp_cast (k p d : Nat) : ((damp k p d : Nat) : Int) = d + dampStep k p d := by
  have hsum : 0 ≤ (d : Int) + dampStep k p d := by
    rcases Nat.le_total d p with h | h
    · have := dampStep_up (k := k) h; omega
    · have := dampStep_down (k := k) h; omega
  exact Int.toNat_of_nonneg hsum

/-! ## The rows of TABLE 31 -/

section
variable (c : Channel) (cls : SourceClass) (reading : Nat)

/-- Row 1: SAG. -/
theorem Channel.gaugeUpdate_sag : c.gaugeUpdate true cls reading = c := rfl

variable {c}

/-- Row 2: a composed value of 0. -/
theorem Channel.gaugeUpdate_rest (h : c.composed = 0) :
    c.gaugeUpdate false cls reading = { c with p := 0, d := damp c.prof.gauge.shift 0 c.d } := by
  simp [Channel.gaugeUpdate, h]

/-- Row 3: a HELD source. -/
theorem Channel.gaugeUpdate_held (h : 0 < c.composed) : c.gaugeUpdate false .held reading = c := by
  simp [Channel.gaugeUpdate, h.ne']

/-- Row 4: a LOST source. -/
theorem Channel.gaugeUpdate_lost (h : 0 < c.composed) :
    c.gaugeUpdate false .lost reading = { c with p := 0, d := damp c.prof.gauge.shift 0 c.d } := by
  simp [Channel.gaugeUpdate, h.ne']

/-- Row 5: a FRESH source. -/
theorem Channel.gaugeUpdate_fresh (h : 0 < c.composed) :
    c.gaugeUpdate false .fresh reading
      = { c with p := curveAt reading c.prof.gauge.curve
                 d := damp c.prof.gauge.shift (curveAt reading c.prof.gauge.curve) c.d } := by
  simp [Channel.gaugeUpdate, h.ne']

end

/-- Settles O51: the bounds of the step in either direction, and the rows of TABLE 31. -/
theorem needleClosesOnItsPosition : Obligations.NeedleClosesOnItsPosition := by
  constructor
  · intro k p d hp hd
    have hcast := damp_cast k p d
    have hup := dampStep_up (k := k) (p := p) (d := d)
    have hdown := dampStep_down (k := k) (p := p) (d := d)
    refine ⟨?step, ?range, ?fromBelow, ?fromAbove, ?moves, ?atOnce⟩
    case step => simpa only [dampStep, ne_eq, ite_not] using hcast
    case range | fromBelow | fromAbove => omega
    case moves =>
      intro h
      have := dampStep_ne_zero (k := k) h
      omega
    case atOnce =>
      rintro rfl
      have := dampStep_shift_zero p d
      omega
  · intro c cls reading
    refine ⟨Channel.gaugeUpdate_sag c cls reading, Channel.gaugeUpdate_held reading, fun h => ?rest, fun h => ?driven⟩
    case rest => simp [Channel.gaugeUpdate_rest cls reading h]
    case driven => simp [Channel.gaugeUpdate_lost reading h, Channel.gaugeUpdate_fresh reading h]

/-! ## The stages -/

/-- Stage B is the floor of the quotient, clamped: at and above the supply the quotient is at least 1024, below it the
clamp does not act (R86). -/
theorem ratio_eq_min {vt vs : Nat} (h : 0 < vs) : ratio vt vs = min 1024 (1024 * vt / vs) := by
  unfold ratio
  split
  case isTrue hle =>
    have : 1024 ≤ 1024 * vt / vs := (Nat.le_div_iff_mul_le h).2 (Nat.mul_le_mul_left 1024 hle)
    omega
  case isFalse hlt =>
    have : 1024 * vt / vs < 1024 := (Nat.div_lt_iff_lt_mul h).2 (by omega)
    omega

/-- A LAMP's or FAN's law: linear for a FAN, square for a LAMP (R87). -/
theorem Channel.lawDuty_of_lamp_or_fan {c : Channel} (h : c.prof.kind = .lamp ∨ c.prof.kind = .fan) (q : Nat) :
    c.lawDuty q = if c.prof.kind = .fan then min 1023 q else min 1023 (q * q / 1024) := by
  rcases h with h | h <;> simp [Channel.lawDuty, h, linearDuty, squareDuty]

/-- In under-supply the duty of a LAMP or FAN is full: at ratio 1024 either law reaches 1023 (R87). -/
theorem Channel.lawDuty_full {c : Channel} (h : c.prof.kind = .lamp ∨ c.prof.kind = .fan) : c.lawDuty 1024 = 1023 := by
  rw [Channel.lawDuty_of_lamp_or_fan h]
  split <;> decide

/-! ## The paths of the drive computation (R83) -/

section
variable {c : Channel} (vs : Nat)

/-- A LAMP or FAN takes none of the switched path (TABLE 18). -/
theorem Channel.switched_of_lamp_or_fan (h : c.prof.kind = .lamp ∨ c.prof.kind = .fan) : c.switched = false := by
  rcases h with h | h <;> simp [Channel.switched, h]

/-- The switched path. -/
theorem Channel.drive_switched (h : c.switched = true) : c.drive vs = c.direct (if c.composed = 255 then 1023 else 0) := by
  simp [Channel.drive, h]

/-- The bypass at 0. -/
theorem Channel.drive_off (hs : c.switched = false) (h : c.composed = 0) : c.drive vs = c.direct 0 := by
  simp [Channel.drive, hs, h]

/-- The bypass at 255. -/
theorem Channel.drive_full (hs : c.switched = false) (h : c.composed = 255) : c.drive vs = c.direct 1023 := by
  simp [Channel.drive, hs, h]

/-- The stages, at a level. -/
theorem Channel.drive_level (hs : c.switched = false) (h0 : 0 < c.composed) (h1 : c.composed < 255) :
    c.drive vs = c.stages vs (levelVoltage c.prof.rated c.composed) := by
  simp [Channel.drive, hs, h0.ne', h1.ne]

end

/-- Settles O50: a LAMP or FAN by the bypass or by the stages, a switched kind by its own path. -/
theorem dutyFollowsTheStages : Obligations.DutyFollowsTheStages := by
  constructor
  · intro c vs hk
    have hs := Channel.switched_of_lamp_or_fan hk
    refine ⟨Channel.drive_off vs hs, Channel.drive_full vs hs, ?level⟩
    intro h0 h1 vt q hvs
    have hq : ratio vt vs = q := ratio_eq_min hvs
    rw [Channel.drive_level vs hs h0 h1]
    refine ⟨rfl, hq, decide_eq_true_iff, ?target, fun hle => ?underSupply, rfl, rfl⟩
    case target => exact hq ▸ Channel.lawDuty_of_lamp_or_fan hk _
    case underSupply =>
      have hfull : ratio vt vs = 1024 := if_pos hle
      exact (congrArg c.lawDuty hfull).trans (Channel.lawDuty_full hk)
  · intro c vs hs _
    exact Channel.drive_switched vs hs

end Sys2Proof.Machine
